-- ==== Sys2Proof/Word.lean ====
section
/-! DEFINITION. The two word types of CORE (spec/00_scope.md R4, R5). -/

namespace Sys2Proof

/-- An 8-bit value: a register, a memory cell, an immediate (R4). -/
abbrev Byte := BitVec 8

/-- A 16-bit value: an address, a register pair, SP, pc (R4). -/
abbrev Word := BitVec 16

end Sys2Proof
end

