-- ==== Sys2Proof/Machine/Bits.lean ====
section
/-! DEFINITION. Bit fields, byte order and sign extension (spec/00_scope.md R5, R6, R9; 20_memory.md R41). -/

namespace Sys2Proof

/-- `v[7:0]`. -/
def Word.lo (v : Word) : Byte := v.extractLsb' 0 8

/-- `v[15:8]`. -/
def Word.hi (v : Word) : Byte := v.extractLsb' 8 8

/-- `{hi, lo}`: the high byte first (R5, 10_state.md R16). -/
def mkWord (hi lo : Byte) : Word := hi ++ lo

/-- `zext_16` (R9). -/
def zext16 (v : Byte) : Word := v.setWidth 16

/-- `sext_16` (R9): `v` when bit 7 is clear, `v + 0xFF00` when it is set. -/
def sext16 (v : Byte) : Word := if v.getLsbD 7 then zext16 v + 0xFF00 else zext16 v

/-- `0xFF00 + n`, the page LDH and LD (C) address (20_memory.md R46, 40_loads.md R83). -/
def highPage (n : Byte) : Word := 0xFF00 + zext16 n

/-- The byte `1 << b`. -/
def bitMask (b : Nat) : Byte := 1#8 <<< b

end Sys2Proof
end

