-- ==== Sys2Proof/Config.lean ====
section
/-! DEFINITION. What spec/ leaves to the implementation: the model parameters of spec/92_eei_decisions.md
(D1, D2, D8, D9, D14; 00_scope.md R4) and the reset values the model names for the two open ones. -/

namespace Sys2Proof

/-- Which cost a taken conditional transfer reports (30_encoding.md R70, D8). -/
inductive CondCostMode where
  /-- The taken cost when taken, the not-taken cost otherwise; the spec's default. -/
  | actual
  /-- Always the not-taken cost. -/
  | base
  deriving DecidableEq, Repr

/-- How ADC and SBC take the carry in (41_alu8.md R96, D14). -/
inductive AdcSbcMode where
  /-- Two sequential additions or subtractions; the spec's default. -/
  | doubleStep
  /-- One three-operand operation. -/
  | hardware
  deriving DecidableEq, Repr

/-- The parameters a step depends on. They are fixed for a machine: `State.params` holds them so that a
statement about every state is a statement about every value of them (log entry 1). -/
structure Params where
  condCostMode : CondCostMode
  adcSbcMode : AdcSbcMode
  /-- Cycles an interrupt dispatch reports (60_exceptions.md R209, D9). -/
  dispatchCycles : Nat
  deriving DecidableEq, Repr

/-- The spec's defaults: D8 Actual, D14 DoubleStep, D9 zero. -/
def Params.default : Params :=
  { condCostMode := .actual, adcSbcMode := .doubleStep, dispatchCycles := 0 }

/-- `reset_pc`. DESIGN CHOICE, unsafe (log entry 2): the spec leaves it open (D1). -/
def resetPc : Word := 0x0000

/-- Every byte of `reset_regs`. DESIGN CHOICE, unsafe (log entry 3): the spec leaves them open (D2). -/
def resetByte : Byte := 0x00

end Sys2Proof
end

