-- ==== Sys2Proof/Machine/State.lean ====
section
/-! DEFINITION. The state of CORE as plain data (spec/10_state.md R15-R32), the reasons a step can stop
(60_exceptions.md R195-R197) and the state after reset (10_state.md R32, 70_reset_and_hazards.md R224). -/

namespace Sys2Proof.Machine

/-- The Register File: eight 8-bit cells (10_state.md R15). F keeps its four flags in bits 7..4 (R17). -/
structure Regs where
  a : Byte
  f : Byte
  b : Byte
  c : Byte
  d : Byte
  e : Byte
  h : Byte
  l : Byte
  deriving DecidableEq, Repr

/-- The Timer (10_state.md R24). The two cycle counters are unbounded integers there, so Nat here. -/
structure Timer where
  div : Byte
  divCounter : Nat
  tima : Byte
  timaCounter : Nat
  tma : Byte
  tac : Byte
  deriving DecidableEq, Repr

/-- The 65,536-cell byte array (10_state.md R29) as the list of its nonzero cells: addresses strictly rising,
no listed cell equal to what an unlisted address reads as (`Memory.wf` in Machine/Ops.lean; log entry 4).
IF is cell 0xFF0F and IE cell 0xFFFF (R26, R27). -/
abbrev Memory := List Host.Cell

/-- Everything the spec gives the machine, and the model's own `params` (log entry 1). -/
structure State where
  regs : Regs
  /-- The stack pointer (R20). -/
  sp : Word
  /-- The program counter (R21). -/
  pc : Word
  /-- The interrupt master enable (R22). -/
  ime : Bool
  /-- The scheduled enable of EI and RETI (R22). -/
  imeScheduled : Bool
  /-- True while the core waits in HALT (R23). -/
  halted : Bool
  timer : Timer
  mem : Memory
  /-- The parameters of the machine (00_scope.md R4); no step changes them. -/
  params : Params
  deriving DecidableEq, Repr

/-- The fatal errors of 60_exceptions.md R195-R197; a raising step changes nothing, and a fault carries no state. -/
inductive Fault where
  /-- Raised by each of the eleven unassigned bytes (R192); `op` is that byte. Safe: the machine stops there too. -/
  | unsupported (op : Byte)
  /-- Raised by STOP always (R190) and by HALT with IME false, nothing scheduled and a request pending (R189);
  `op` is the opcode byte. Safe: the machine stops there too. -/
  | unimplemented (op : Byte)
  deriving DecidableEq, Repr

/-- Reasons the model itself would have no meaning for an instruction. -/
inductive Refusal where
  /-- Raised by an arm of `exec` whose instruction has no meaning yet; no arm does. Safe. -/
  | notModelled (mnemonic : String)
  deriving DecidableEq, Repr

/-- What a meaning answers. -/
abbrev Result := Host.Outcome State Fault Refusal

/-- Construction (70_reset_and_hazards.md R224; 10_state.md R32) for given parameters, `reset_pc` and
`reset_regs`: F[3:0] is cleared, the array is all zero (20_memory.md R36) and so lists no cell. -/
def State.construct (params : Params) (pc : Word) (regs : Regs) : State :=
  { regs := { regs with f := regs.f &&& 0xF0 }
    sp := 0xFFFE
    pc := pc
    ime := false
    imeScheduled := false
    halted := false
    timer := { div := 0, divCounter := 0, tima := 0, timaCounter := 0, tma := 0, tac := 0 }
    mem := []
    params := params }

/-- `reset_regs` of the model: every byte `resetByte` (log entry 3). -/
def resetRegs : Regs :=
  { a := resetByte, f := resetByte, b := resetByte, c := resetByte
    d := resetByte, e := resetByte, h := resetByte, l := resetByte }

/-- The machine right after reset, with the spec's default parameters and the model's `resetPc` and
`resetRegs` (log entries 1, 2, 3). -/
def State.reset : State := State.construct Params.default resetPc resetRegs

end Sys2Proof.Machine
end

