-- ==== Sys2Proof/Machine/Ops.lean ====
section
/-! DEFINITION. The named operations over memory, registers, the Timer and the interrupt logic: the byte array and
the routing (spec/20_memory.md R37-R40), the register views and flags (10_state.md R16-R18), the stack
(46_stack.md R181, R183), the Timer (60_exceptions.md R213-R215), taking an interrupt and returning from one
(R207, R209; 45_control.md R174), the step tail (30_encoding.md R54). -/

namespace Sys2Proof.Machine

/-! ## The byte array -/

/-- What an address the list does not hold reads as: the array is all zero at construction (20_memory.md R36). -/
def Memory.unlisted : Byte := 0x00

/-- The byte of the array at an address. -/
def Memory.read : Memory → Nat → Byte
  | [], _ => Memory.unlisted
  | (k, v) :: m, a => if a = k then v else Memory.read m a

/-- The array with one byte replaced, in the canonical form: a byte equal to `unlisted` is not listed. -/
def Memory.write : Memory → Nat → Byte → Memory
  | [], a, v => if v = Memory.unlisted then [] else [(a, v)]
  | (k, w) :: m, a, v =>
    if a < k then (if v = Memory.unlisted then (k, w) :: m else (a, v) :: (k, w) :: m)
    else if a = k then (if v = Memory.unlisted then m else (a, v) :: m)
    else (k, w) :: Memory.write m a v

/-- The cells are strictly rising from `low`, below 65,536, and none equals `unlisted`. -/
def Memory.wfFrom : Nat → Memory → Bool
  | _, [] => true
  | low, (k, v) :: m => decide (low ≤ k) && decide (k < 65536) && decide (v ≠ Memory.unlisted) && Memory.wfFrom (k + 1) m

/-- The canonical form of memory (log entry 4). -/
def Memory.wf (m : Memory) : Bool := Memory.wfFrom 0 m

/-! ## Addresses with a meaning of their own (20_memory.md R46) -/

def addrDiv : Word := 0xFF04
def addrTima : Word := 0xFF05
def addrTma : Word := 0xFF06
def addrTac : Word := 0xFF07
def addrIf : Word := 0xFF0F
def addrIe : Word := 0xFFFF

/-! ## Byte accesses through the routing (20_memory.md R37) -/

/-- `MemRead(addr, 1)` (R37): the four timer registers, else the array. A read changes nothing (R45). -/
def State.memRead (s : State) (a : Word) : Byte :=
  if a = addrDiv then s.timer.div
  else if a = addrTima then s.timer.tima
  else if a = addrTma then s.timer.tma
  else if a = addrTac then s.timer.tac
  else s.mem.read a.toNat

/-- `MemWrite(addr, 1, v)` (R37-R40): a write to DIV stores 0 and clears `div_counter` whatever `v` is (R38). -/
def State.memWrite (a : Word) (v : Byte) (s : State) : State :=
  if a = addrDiv then { s with timer := { s.timer with div := 0, divCounter := 0 } }
  else if a = addrTima then { s with timer := { s.timer with tima := v } }
  else if a = addrTma then { s with timer := { s.timer with tma := v } }
  else if a = addrTac then { s with timer := { s.timer with tac := v } }
  else { s with mem := s.mem.write a.toNat v }

/-- `MemRead16(addr)` (00_scope.md R8): low byte at `addr`, high byte at `addr + 1`. -/
def State.memRead16 (s : State) (a : Word) : Word := mkWord (s.memRead (a + 1)) (s.memRead a)

/-- `MemWrite16(addr, v)` (00_scope.md R8): the low byte at `addr`, then the high byte at `addr + 1`. -/
def State.memWrite16 (a v : Word) (s : State) : State := (s.memWrite a v.lo).memWrite (a + 1) v.hi

/-- The stored byte IF (10_state.md R26). -/
def State.ifReg (s : State) : Byte := s.mem.read addrIf.toNat

/-- The stored byte IE (10_state.md R27). -/
def State.ieReg (s : State) : Byte := s.mem.read addrIe.toNat

/-- IF replaced. -/
def State.setIf (v : Byte) (s : State) : State := { s with mem := s.mem.write addrIf.toNat v }

/-! ## Register views (10_state.md R16) -/

def State.bc (s : State) : Word := mkWord s.regs.b s.regs.c
def State.de (s : State) : Word := mkWord s.regs.d s.regs.e
def State.hl (s : State) : Word := mkWord s.regs.h s.regs.l
def State.af (s : State) : Word := mkWord s.regs.a s.regs.f

def State.setBc (v : Word) (s : State) : State := { s with regs := { s.regs with b := v.hi, c := v.lo } }
def State.setDe (v : Word) (s : State) : State := { s with regs := { s.regs with d := v.hi, e := v.lo } }
def State.setHl (v : Word) (s : State) : State := { s with regs := { s.regs with h := v.hi, l := v.lo } }

/-- The AF setter masks the low nibble of F to zero (R16). -/
def State.setAf (v : Word) (s : State) : State :=
  { s with regs := { s.regs with a := v.hi, f := v.lo &&& 0xF0 } }

/-- `x[A] <- v`. -/
def State.setA (v : Byte) (s : State) : State := { s with regs := { s.regs with a := v } }

/-! ## Flags (10_state.md R17, R18) -/

/-- The four flags as Booleans. -/
structure Flags where
  z : Bool
  n : Bool
  h : Bool
  c : Bool
  deriving DecidableEq, Repr

def State.flagZ (s : State) : Bool := s.regs.f.getLsbD 7
def State.flagN (s : State) : Bool := s.regs.f.getLsbD 6
def State.flagH (s : State) : Bool := s.regs.f.getLsbD 5
def State.flagC (s : State) : Bool := s.regs.f.getLsbD 4

/-- The flags F holds (R17). -/
def State.flags (s : State) : Flags := { z := s.flagZ, n := s.flagN, h := s.flagH, c := s.flagC }

/-- The bits 7..4 of F that stand for the flags (R17). -/
def Flags.toByte (fl : Flags) : Byte :=
  (if fl.z then 0x80 else 0) ||| (if fl.n then 0x40 else 0) ||| (if fl.h then 0x20 else 0) ||| (if fl.c then 0x10 else 0)

/-- The flag setters: bits 7..4 of F written, F[3:0] left as it is (R18; log entry 12). -/
def State.setFlags (fl : Flags) (s : State) : State :=
  { s with regs := { s.regs with f := fl.toByte ||| (s.regs.f &&& 0x0F) } }

/-! ## The stack (46_stack.md) -/

/-- `Push16(v)` (R181): high byte at SP - 1, then low byte at SP - 2. -/
def State.push16 (v : Word) (s : State) : State :=
  let s1 := { s with sp := s.sp - 1 }
  let s2 := s1.memWrite s1.sp v.hi
  let s3 := { s2 with sp := s2.sp - 1 }
  s3.memWrite s3.sp v.lo

/-- The value `Pop16()` returns (R183): low byte at SP, high byte at SP + 1. -/
def State.pop16Value (s : State) : Word := mkWord (s.memRead (s.sp + 1)) (s.memRead s.sp)

/-- The state `Pop16()` leaves (R183): SP + 2, memory as it was. -/
def State.pop16 (s : State) : State := { s with sp := s.sp + 1 + 1 }

/-! ## The Timer -/

/-- `threshold(TAC[1:0])` (10_state.md R25). -/
def threshold (tac : Byte) : Nat :=
  if tac.extractLsb' 0 2 = 0 then 1024
  else if tac.extractLsb' 0 2 = 1 then 16
  else if tac.extractLsb' 0 2 = 2 then 64
  else 256

/-- The divider's part of `advance(c)` (60_exceptions.md R213): the literal threshold is 255 (90_conflicts C1). -/
def Timer.advanceDiv (c : Nat) (t : Timer) : Timer :=
  if t.divCounter + c ≥ 255 then { t with divCounter := 0, div := t.div + 1 }
  else { t with divCounter := t.divCounter + c }

/-- The counter's part of `advance(c)` (60_exceptions.md R214); the Boolean is `irq`. -/
def Timer.advanceTima (c : Nat) (t : Timer) : Timer × Bool :=
  if t.tac.getLsbD 2 then
    if t.timaCounter + c ≥ threshold t.tac then
      if t.tima = 0xFF then ({ t with timaCounter := 0, tima := t.tma }, true)
      else ({ t with timaCounter := 0, tima := t.tima + 1 }, false)
    else ({ t with timaCounter := t.timaCounter + c }, false)
  else (t, false)

/-- `advance(c)` (60_exceptions.md R213, R214). -/
def Timer.advance (c : Nat) (t : Timer) : Timer × Bool := (t.advanceDiv c).advanceTima c

/-- `ReportCycles(c)` (60_exceptions.md R215): bit 2 of IF is ORed in on overflow. -/
def State.reportCycles (c : Nat) (s : State) : State :=
  let s1 := { s with timer := (s.timer.advance c).1 }
  if (s.timer.advance c).2 then s1.setIf (s1.ifReg ||| 0x04) else s1

/-! ## Interrupts (60_exceptions.md) -/

/-- The five sources, in priority order (R200). -/
inductive Source where
  | vblank
  | lcd
  | timer
  | serial
  | joypad
  deriving DecidableEq, Repr

/-- The bit of IF and IE that stands for a source (R200). -/
def Source.bit : Source → Nat
  | .vblank => 0
  | .lcd => 1
  | .timer => 2
  | .serial => 3
  | .joypad => 4

/-- The fixed vector of a source (R200). -/
def Source.vector : Source → Word
  | .vblank => 0x0040
  | .lcd => 0x0048
  | .timer => 0x0050
  | .serial => 0x0058
  | .joypad => 0x0060

/-- `Snapshot()` (R206): it reads the stored bytes. -/
def State.snapshot (s : State) : Byte := s.ieReg &&& s.ifReg &&& 0x1F

/-- The lowest set bit of a snapshot (R207): VBlank > LCD > Timer > Serial > Joypad. -/
def Source.ofSnapshot (v : Byte) : Option Source :=
  if v.getLsbD 0 then some .vblank
  else if v.getLsbD 1 then some .lcd
  else if v.getLsbD 2 then some .timer
  else if v.getLsbD 3 then some .serial
  else if v.getLsbD 4 then some .joypad
  else none

/-- `dispatch(i)` (R209): the one exception entry of CORE. The pc is saved on the stack, nothing else (R211). -/
def State.takeInterrupt (i : Source) (s : State) : State :=
  let s1 := s.push16 s.pc
  let s2 := { s1 with pc := i.vector, ime := false, imeScheduled := false, halted := false }
  s2.reportCycles s.params.dispatchCycles

/-- The return from a handler, RETI's effect (45_control.md R174): pc popped, the enable scheduled. -/
def State.returnFromInterrupt (s : State) : State :=
  { s.pop16 with pc := s.pop16Value, imeScheduled := true }

/-- `interrupt_check()` (R207): with `ime`, IF is cleared whole and the first pending source taken. -/
def State.interruptCheck (s : State) : State :=
  if s.ime then
    match Source.ofSnapshot s.snapshot with
    | some i => (s.setIf 0x00).takeInterrupt i
    | none => s.setIf 0x00
  else s

/-- `apply_delayed_ime(sched0)` (R204). -/
def State.applyDelayedIme (sched0 : Bool) (s : State) : State :=
  if sched0 && s.imeScheduled then { s with ime := true, imeScheduled := false } else s

/-- Wake-up from HALT (R208), whatever `ime` is. -/
def State.wake (s : State) : State :=
  if s.halted && s.snapshot != 0 then { s with halted := false } else s

/-- `step_tail(sched0)` (30_encoding.md R54): delayed enable, wake-up, interrupt check. -/
def State.stepTail (sched0 : Bool) (s : State) : State := ((s.applyDelayedIme sched0).wake).interruptCheck

/-- `halted_step()` (47_system.md R193). -/
def State.haltedStep (s : State) : State := (s.reportCycles 4).stepTail s.imeScheduled

end Sys2Proof.Machine
end

