-- ==== Sys2Proof/Machine/Operands.lean ====
section
/-! DEFINITION. Every operand form of CORE: the r8 codes with (HL) (spec/30_encoding.md R60), the pair groups
(R61), the conditions (R62, 45_control.md R165). Immediates are fields of the instruction (R57, R58). -/

namespace Sys2Proof.Machine

/-- `x[r]` for the seven single registers (00_scope.md R7). -/
def State.getReg (s : State) : Reg8 → Byte
  | .b => s.regs.b
  | .c => s.regs.c
  | .d => s.regs.d
  | .e => s.regs.e
  | .h => s.regs.h
  | .l => s.regs.l
  | .a => s.regs.a

/-- `x[r] <- v` for the seven single registers (00_scope.md R7). -/
def State.setReg (r : Reg8) (v : Byte) (s : State) : State :=
  match r with
  | .b => { s with regs := { s.regs with b := v } }
  | .c => { s with regs := { s.regs with c := v } }
  | .d => { s with regs := { s.regs with d := v } }
  | .e => { s with regs := { s.regs with e := v } }
  | .h => { s with regs := { s.regs with h := v } }
  | .l => { s with regs := { s.regs with l := v } }
  | .a => { s with regs := { s.regs with a := v } }

/-- Reading an r8 target: code 6 reads the byte at HL (R60). -/
def State.readTarget (s : State) : Target8 → Byte
  | .reg r => s.getReg r
  | .mhl => s.memRead s.hl

/-- Writing an r8 target: code 6 writes the byte at HL (R60). -/
def State.writeTarget (t : Target8) (v : Byte) (s : State) : State :=
  match t with
  | .reg r => s.setReg r v
  | .mhl => s.memWrite s.hl v

/-- Reading a pair of group 1: BC, DE, HL, SP (R61). -/
def State.getPair (s : State) : Pair → Word
  | .bc => s.bc
  | .de => s.de
  | .hl => s.hl
  | .sp => s.sp

/-- Writing a pair of group 1 (R61). -/
def State.setPair (p : Pair) (v : Word) (s : State) : State :=
  match p with
  | .bc => s.setBc v
  | .de => s.setDe v
  | .hl => s.setHl v
  | .sp => { s with sp := v }

/-- Reading a pair of group 2: BC, DE, HL, AF (R61). -/
def State.getStackPair (s : State) : StackPair → Word
  | .bc => s.bc
  | .de => s.de
  | .hl => s.hl
  | .af => s.af

/-- Writing a pair of group 2; AF masks the low nibble of F (R61, 10_state.md R16). -/
def State.setStackPair (p : StackPair) (v : Word) (s : State) : State :=
  match p with
  | .bc => s.setBc v
  | .de => s.setDe v
  | .hl => s.setHl v
  | .af => s.setAf v

/-- `cond(cc)` against the current flags (45_control.md R165). -/
def State.cond (s : State) : Cond → Bool
  | .nz => !s.flagZ
  | .z => s.flagZ
  | .nc => !s.flagC
  | .c => s.flagC

end Sys2Proof.Machine
end

