-- ==== Sys2Proof/Machine/Flags.lean ====
section
/-! DEFINITION. Every result and flag computation of CORE, as functions of the operands: spec/00_scope.md R11,
41_alu8.md R95, R96, R109-R125, 42_alu16.md R133, R134, 43_rotate_shift.md R138-R158. -/

namespace Sys2Proof.Machine

/-- `half_add(a, b)`: a carry out of bit 3, from the pre-operation operands (00_scope.md R11). -/
def halfAdd (a b : Byte) : Bool := decide ((a &&& 0x0F).toNat + (b &&& 0x0F).toNat > 0x0F)

/-- `half_sub(a, b)`: a borrow into bit 3, from the pre-operation operands (00_scope.md R11). -/
def halfSub (a b : Byte) : Bool := decide ((a &&& 0x0F).toNat < (b &&& 0x0F).toNat)

/-- `add8(a, b)` (R95): the result and the flags it writes. -/
def add8 (a b : Byte) : Byte × Flags :=
  (a + b, { z := a + b == 0, n := false, h := halfAdd a b, c := decide (a.toNat + b.toNat > 0xFF) })

/-- `sub8(a, b)` (R95). -/
def sub8 (a b : Byte) : Byte × Flags :=
  (a - b, { z := a - b == 0, n := true, h := halfSub a b, c := decide (a.toNat < b.toNat) })

/-- `adc8(a, v)` with carry in `c` (R96). The double step loses the first step's flags. -/
def adc8 (mode : AdcSbcMode) (a v : Byte) (c : Bool) : Byte × Flags :=
  match mode with
  | .doubleStep => add8 (if c then (add8 a 1).1 else a) v
  | .hardware =>
    let r := a + v + (BitVec.ofBool c).setWidth 8
    (r, { z := r == 0, n := false
          h := decide ((a &&& 0x0F).toNat + (v &&& 0x0F).toNat + c.toNat > 0x0F)
          c := decide (a.toNat + v.toNat + c.toNat > 0xFF) })

/-- `sbc8(a, v)` with carry in `c` (R96). -/
def sbc8 (mode : AdcSbcMode) (a v : Byte) (c : Bool) : Byte × Flags :=
  match mode with
  | .doubleStep => sub8 (if c then (sub8 a 1).1 else a) v
  | .hardware =>
    let r := a - v - (BitVec.ofBool c).setWidth 8
    (r, { z := r == 0, n := true
          h := decide ((a &&& 0x0F).toNat < (v &&& 0x0F).toNat + c.toNat)
          c := decide (a.toNat < v.toNat + c.toNat) })

/-- The flags of AND, XOR and OR (R109, R112, R115): H is 1 for AND only. -/
def logicFlags (r : Byte) (h : Bool) : Flags := { z := r == 0, n := false, h := h, c := false }

/-- An 8-bit ALU operation on A: the byte left in A and the flags (R94-R118). CP leaves A (R118). -/
def aluResult (mode : AdcSbcMode) (op : AluOp) (a v : Byte) (c : Bool) : Byte × Flags :=
  match op with
  | .add => add8 a v
  | .adc => adc8 mode a v c
  | .sub => sub8 a v
  | .sbc => sbc8 mode a v c
  | .and => (a &&& v, logicFlags (a &&& v) true)
  | .xor => (a ^^^ v, logicFlags (a ^^^ v) false)
  | .or => (a ||| v, logicFlags (a ||| v) false)
  | .cp => (a, (sub8 a v).2)

/-- The flags INC writes; C is left (R121). -/
def incFlags (v : Byte) (old : Flags) : Flags := { old with z := v + 1 == 0, n := false, h := halfAdd v 1 }

/-- The flags DEC writes; C is left (R123). -/
def decFlags (v : Byte) (old : Flags) : Flags := { old with z := v - 1 == 0, n := true, h := halfSub v 1 }

/-- Whether DAA's addition case adds 0x60 and sets C (R125). -/
def daaHigh (a : Byte) (old : Flags) : Bool := old.c || decide (a.toNat > 0x99)

/-- Whether DAA's addition case adds 0x06 (R125). -/
def daaLow (a : Byte) (old : Flags) : Bool := old.h || decide ((a &&& 0x0F).toNat > 0x09)

/-- DAA (R125): the new accumulator and the flags. Both tests read the accumulator as it was. -/
def daaResult (a : Byte) (old : Flags) : Byte × Flags :=
  if old.n then
    let r := a - ((if old.c then 0x60 else 0) + (if old.h then 0x06 else 0))
    (r, { old with z := r == 0, h := false })
  else
    let r := a + ((if daaHigh a old then 0x60 else 0) + (if daaLow a old then 0x06 else 0))
    (r, { old with z := r == 0, h := false, c := daaHigh a old })

/-- The flags ADD HL,rr writes: carries out of bits 11 and 15; Z is left (42_alu16.md R133). -/
def addHlFlags (h v : Word) (old : Flags) : Flags :=
  { old with
    n := false
    h := decide ((h &&& 0x0FFF).toNat + (v &&& 0x0FFF).toNat > 0x0FFF)
    c := decide (h.toNat + v.toNat > 0xFFFF) }

/-- `sp_add_e8(sp, e)` (42_alu16.md R134): flags from the low byte of SP and `e` as unsigned bytes. -/
def spAddE8 (sp : Word) (e : Byte) : Word × Flags :=
  (sp + sext16 e,
    { z := false, n := false
      h := decide ((sp &&& 0x0F).toNat + (e &&& 0x0F).toNat > 0x0F)
      c := decide ((sp &&& 0xFF).toNat + e.toNat > 0xFF) })

/-- A rotate, shift or swap of one byte: the result and the bit shifted out, `cin` being F.C before it
(43_rotate_shift.md R143-R158; SWAP shifts no bit out, R155). -/
def rotResult (op : RotOp) (v : Byte) (cin : Bool) : Byte × Bool :=
  match op with
  | .rlc => ((v <<< 1) ||| (if v.getLsbD 7 then 0x01 else 0), v.getLsbD 7)
  | .rrc => ((v >>> 1) ||| (if v.getLsbD 0 then 0x80 else 0), v.getLsbD 0)
  | .rl => ((v <<< 1) ||| (if cin then 0x01 else 0), v.getLsbD 7)
  | .rr => ((v >>> 1) ||| (if cin then 0x80 else 0), v.getLsbD 0)
  | .sla => (v <<< 1, v.getLsbD 7)
  | .sra => ((v >>> 1) ||| (v &&& 0x80), v.getLsbD 0)
  | .swap => (((v &&& 0x0F) <<< 4) ||| (v >>> 4), false)
  | .srl => (v >>> 1, v.getLsbD 0)

/-- The flags of a CB rotate, shift or swap (R142). -/
def rotFlags (r : Byte) (c : Bool) : Flags := { z := r == 0, n := false, h := false, c := c }

/-- The flags of BIT: Z the complement of the tested bit, C left (44_bit.md R159). -/
def bitFlags (v : Byte) (b : Nat) (old : Flags) : Flags := { old with z := !v.getLsbD b, n := false, h := true }

end Sys2Proof.Machine
end

