-- ==== Sys2Proof/Machine/Loads.lean ====
section
/-! DEFINITION. Loads and stores (spec/40_loads.md R72-R93). No load writes a flag. Each instruction has a
meaning of its own over the shared operations. -/

namespace Sys2Proof.Machine

/-! ## Shared operations -/

/-- `x[d] <- v`, or the byte at HL when `d` is (HL); `v` is read before the write (R72-R76; 30_encoding.md R57). -/
def ld8 (d : Target8) (v : Byte) (s : State) : Result := .next (s.writeTarget d v)

/-- `MemWrite(a, 1, v)` (R79, R80, R82, R84, R86). -/
def store8 (a : Word) (v : Byte) (s : State) : Result := .next (s.memWrite a v)

/-- `MemWrite16(a, v)` (R92). -/
def store16 (a v : Word) (s : State) : Result := .next (s.memWrite16 a v)

/-- `x[rr] <- v` (R91, R93; 42_alu16.md R131, R132). -/
def ld16 (p : Pair) (v : Word) (s : State) : Result := .next (s.setPair p v)

/-- `MemWrite(x[HL], 1, x[A])`, then HL replaced by its stepped value (R87, R88; 70_reset_and_hazards.md R230). -/
def storeStep (hl' : Word) (s : State) : Result := .next ((s.memWrite s.hl s.regs.a).setHl hl')

/-- `x[A] <- MemRead(x[HL], 1)`, then HL replaced by its stepped value (R89, R90). -/
def loadStep (hl' : Word) (s : State) : Result := .next ((s.setA (s.memRead s.hl)).setHl hl')

/-! ## The meanings -/

/-- R91: `LD BC,n16`. -/
abbrev exec_ld_bc_n16 (n16 : Word) (s : State) : Result := ld16 .bc n16 s

/-- R79: `LD (BC),A`. -/
abbrev exec_ld_mbc_a (s : State) : Result := store8 s.bc (s.getReg .a) s

/-- R73: `LD B,n8`. -/
abbrev exec_ld_b_n8 (n8 : Byte) (s : State) : Result := ld8 (.reg .b) n8 s

/-- R92: `LD (a16),SP`. -/
abbrev exec_ld_ma16_sp (a16 : Word) (s : State) : Result := store16 a16 s.sp s

/-- R77: `LD A,(BC)`. -/
abbrev exec_ld_a_mbc (s : State) : Result := ld8 (.reg .a) (s.memRead s.bc) s

/-- R73: `LD C,n8`. -/
abbrev exec_ld_c_n8 (n8 : Byte) (s : State) : Result := ld8 (.reg .c) n8 s

/-- R91: `LD DE,n16`. -/
abbrev exec_ld_de_n16 (n16 : Word) (s : State) : Result := ld16 .de n16 s

/-- R80: `LD (DE),A`. -/
abbrev exec_ld_mde_a (s : State) : Result := store8 s.de (s.getReg .a) s

/-- R73: `LD D,n8`. -/
abbrev exec_ld_d_n8 (n8 : Byte) (s : State) : Result := ld8 (.reg .d) n8 s

/-- R78: `LD A,(DE)`. -/
abbrev exec_ld_a_mde (s : State) : Result := ld8 (.reg .a) (s.memRead s.de) s

/-- R73: `LD E,n8`. -/
abbrev exec_ld_e_n8 (n8 : Byte) (s : State) : Result := ld8 (.reg .e) n8 s

/-- R91: `LD HL,n16`. -/
abbrev exec_ld_hl_n16 (n16 : Word) (s : State) : Result := ld16 .hl n16 s

/-- R87: `LD (HL+),A`. -/
abbrev exec_ld_mhli_a (s : State) : Result := storeStep (s.hl + 1) s

/-- R73: `LD H,n8`. -/
abbrev exec_ld_h_n8 (n8 : Byte) (s : State) : Result := ld8 (.reg .h) n8 s

/-- R89: `LD A,(HL+)`. -/
abbrev exec_ld_a_mhli (s : State) : Result := loadStep (s.hl + 1) s

/-- R73: `LD L,n8`. -/
abbrev exec_ld_l_n8 (n8 : Byte) (s : State) : Result := ld8 (.reg .l) n8 s

/-- R91: `LD SP,n16`. -/
abbrev exec_ld_sp_n16 (n16 : Word) (s : State) : Result := ld16 .sp n16 s

/-- R88: `LD (HL-),A`. -/
abbrev exec_ld_mhld_a (s : State) : Result := storeStep (s.hl - 1) s

/-- R76: `LD (HL),n8`. -/
abbrev exec_ld_mhl_n8 (n8 : Byte) (s : State) : Result := ld8 .mhl n8 s

/-- R90: `LD A,(HL-)`. -/
abbrev exec_ld_a_mhld (s : State) : Result := loadStep (s.hl - 1) s

/-- R73: `LD A,n8`. -/
abbrev exec_ld_a_n8 (n8 : Byte) (s : State) : Result := ld8 (.reg .a) n8 s

/-- R72: `LD B,B`. -/
abbrev exec_ld_b_b (s : State) : Result := ld8 (.reg .b) (s.readTarget (.reg .b)) s

/-- R72: `LD B,C`. -/
abbrev exec_ld_b_c (s : State) : Result := ld8 (.reg .b) (s.readTarget (.reg .c)) s

/-- R72: `LD B,D`. -/
abbrev exec_ld_b_d (s : State) : Result := ld8 (.reg .b) (s.readTarget (.reg .d)) s

/-- R72: `LD B,E`. -/
abbrev exec_ld_b_e (s : State) : Result := ld8 (.reg .b) (s.readTarget (.reg .e)) s

/-- R72: `LD B,H`. -/
abbrev exec_ld_b_h (s : State) : Result := ld8 (.reg .b) (s.readTarget (.reg .h)) s

/-- R72: `LD B,L`. -/
abbrev exec_ld_b_l (s : State) : Result := ld8 (.reg .b) (s.readTarget (.reg .l)) s

/-- R74: `LD B,(HL)`. -/
abbrev exec_ld_b_mhl (s : State) : Result := ld8 (.reg .b) (s.readTarget .mhl) s

/-- R72: `LD B,A`. -/
abbrev exec_ld_b_a (s : State) : Result := ld8 (.reg .b) (s.readTarget (.reg .a)) s

/-- R72: `LD C,B`. -/
abbrev exec_ld_c_b (s : State) : Result := ld8 (.reg .c) (s.readTarget (.reg .b)) s

/-- R72: `LD C,C`. -/
abbrev exec_ld_c_c (s : State) : Result := ld8 (.reg .c) (s.readTarget (.reg .c)) s

/-- R72: `LD C,D`. -/
abbrev exec_ld_c_d (s : State) : Result := ld8 (.reg .c) (s.readTarget (.reg .d)) s

/-- R72: `LD C,E`. -/
abbrev exec_ld_c_e (s : State) : Result := ld8 (.reg .c) (s.readTarget (.reg .e)) s

/-- R72: `LD C,H`. -/
abbrev exec_ld_c_h (s : State) : Result := ld8 (.reg .c) (s.readTarget (.reg .h)) s

/-- R72: `LD C,L`. -/
abbrev exec_ld_c_l (s : State) : Result := ld8 (.reg .c) (s.readTarget (.reg .l)) s

/-- R74: `LD C,(HL)`. -/
abbrev exec_ld_c_mhl (s : State) : Result := ld8 (.reg .c) (s.readTarget .mhl) s

/-- R72: `LD C,A`. -/
abbrev exec_ld_c_a (s : State) : Result := ld8 (.reg .c) (s.readTarget (.reg .a)) s

/-- R72: `LD D,B`. -/
abbrev exec_ld_d_b (s : State) : Result := ld8 (.reg .d) (s.readTarget (.reg .b)) s

/-- R72: `LD D,C`. -/
abbrev exec_ld_d_c (s : State) : Result := ld8 (.reg .d) (s.readTarget (.reg .c)) s

/-- R72: `LD D,D`. -/
abbrev exec_ld_d_d (s : State) : Result := ld8 (.reg .d) (s.readTarget (.reg .d)) s

/-- R72: `LD D,E`. -/
abbrev exec_ld_d_e (s : State) : Result := ld8 (.reg .d) (s.readTarget (.reg .e)) s

/-- R72: `LD D,H`. -/
abbrev exec_ld_d_h (s : State) : Result := ld8 (.reg .d) (s.readTarget (.reg .h)) s

/-- R72: `LD D,L`. -/
abbrev exec_ld_d_l (s : State) : Result := ld8 (.reg .d) (s.readTarget (.reg .l)) s

/-- R74: `LD D,(HL)`. -/
abbrev exec_ld_d_mhl (s : State) : Result := ld8 (.reg .d) (s.readTarget .mhl) s

/-- R72: `LD D,A`. -/
abbrev exec_ld_d_a (s : State) : Result := ld8 (.reg .d) (s.readTarget (.reg .a)) s

/-- R72: `LD E,B`. -/
abbrev exec_ld_e_b (s : State) : Result := ld8 (.reg .e) (s.readTarget (.reg .b)) s

/-- R72: `LD E,C`. -/
abbrev exec_ld_e_c (s : State) : Result := ld8 (.reg .e) (s.readTarget (.reg .c)) s

/-- R72: `LD E,D`. -/
abbrev exec_ld_e_d (s : State) : Result := ld8 (.reg .e) (s.readTarget (.reg .d)) s

/-- R72: `LD E,E`. -/
abbrev exec_ld_e_e (s : State) : Result := ld8 (.reg .e) (s.readTarget (.reg .e)) s

/-- R72: `LD E,H`. -/
abbrev exec_ld_e_h (s : State) : Result := ld8 (.reg .e) (s.readTarget (.reg .h)) s

/-- R72: `LD E,L`. -/
abbrev exec_ld_e_l (s : State) : Result := ld8 (.reg .e) (s.readTarget (.reg .l)) s

/-- R74: `LD E,(HL)`. -/
abbrev exec_ld_e_mhl (s : State) : Result := ld8 (.reg .e) (s.readTarget .mhl) s

/-- R72: `LD E,A`. -/
abbrev exec_ld_e_a (s : State) : Result := ld8 (.reg .e) (s.readTarget (.reg .a)) s

/-- R72: `LD H,B`. -/
abbrev exec_ld_h_b (s : State) : Result := ld8 (.reg .h) (s.readTarget (.reg .b)) s

/-- R72: `LD H,C`. -/
abbrev exec_ld_h_c (s : State) : Result := ld8 (.reg .h) (s.readTarget (.reg .c)) s

/-- R72: `LD H,D`. -/
abbrev exec_ld_h_d (s : State) : Result := ld8 (.reg .h) (s.readTarget (.reg .d)) s

/-- R72: `LD H,E`. -/
abbrev exec_ld_h_e (s : State) : Result := ld8 (.reg .h) (s.readTarget (.reg .e)) s

/-- R72: `LD H,H`. -/
abbrev exec_ld_h_h (s : State) : Result := ld8 (.reg .h) (s.readTarget (.reg .h)) s

/-- R72: `LD H,L`. -/
abbrev exec_ld_h_l (s : State) : Result := ld8 (.reg .h) (s.readTarget (.reg .l)) s

/-- R74: `LD H,(HL)`. -/
abbrev exec_ld_h_mhl (s : State) : Result := ld8 (.reg .h) (s.readTarget .mhl) s

/-- R72: `LD H,A`. -/
abbrev exec_ld_h_a (s : State) : Result := ld8 (.reg .h) (s.readTarget (.reg .a)) s

/-- R72: `LD L,B`. -/
abbrev exec_ld_l_b (s : State) : Result := ld8 (.reg .l) (s.readTarget (.reg .b)) s

/-- R72: `LD L,C`. -/
abbrev exec_ld_l_c (s : State) : Result := ld8 (.reg .l) (s.readTarget (.reg .c)) s

/-- R72: `LD L,D`. -/
abbrev exec_ld_l_d (s : State) : Result := ld8 (.reg .l) (s.readTarget (.reg .d)) s

/-- R72: `LD L,E`. -/
abbrev exec_ld_l_e (s : State) : Result := ld8 (.reg .l) (s.readTarget (.reg .e)) s

/-- R72: `LD L,H`. -/
abbrev exec_ld_l_h (s : State) : Result := ld8 (.reg .l) (s.readTarget (.reg .h)) s

/-- R72: `LD L,L`. -/
abbrev exec_ld_l_l (s : State) : Result := ld8 (.reg .l) (s.readTarget (.reg .l)) s

/-- R74: `LD L,(HL)`. -/
abbrev exec_ld_l_mhl (s : State) : Result := ld8 (.reg .l) (s.readTarget .mhl) s

/-- R72: `LD L,A`. -/
abbrev exec_ld_l_a (s : State) : Result := ld8 (.reg .l) (s.readTarget (.reg .a)) s

/-- R75: `LD (HL),B`. -/
abbrev exec_ld_mhl_b (s : State) : Result := ld8 .mhl (s.readTarget (.reg .b)) s

/-- R75: `LD (HL),C`. -/
abbrev exec_ld_mhl_c (s : State) : Result := ld8 .mhl (s.readTarget (.reg .c)) s

/-- R75: `LD (HL),D`. -/
abbrev exec_ld_mhl_d (s : State) : Result := ld8 .mhl (s.readTarget (.reg .d)) s

/-- R75: `LD (HL),E`. -/
abbrev exec_ld_mhl_e (s : State) : Result := ld8 .mhl (s.readTarget (.reg .e)) s

/-- R75: `LD (HL),H`. -/
abbrev exec_ld_mhl_h (s : State) : Result := ld8 .mhl (s.readTarget (.reg .h)) s

/-- R75: `LD (HL),L`. -/
abbrev exec_ld_mhl_l (s : State) : Result := ld8 .mhl (s.readTarget (.reg .l)) s

/-- R75: `LD (HL),A`. -/
abbrev exec_ld_mhl_a (s : State) : Result := ld8 .mhl (s.readTarget (.reg .a)) s

/-- R72: `LD A,B`. -/
abbrev exec_ld_a_b (s : State) : Result := ld8 (.reg .a) (s.readTarget (.reg .b)) s

/-- R72: `LD A,C`. -/
abbrev exec_ld_a_c (s : State) : Result := ld8 (.reg .a) (s.readTarget (.reg .c)) s

/-- R72: `LD A,D`. -/
abbrev exec_ld_a_d (s : State) : Result := ld8 (.reg .a) (s.readTarget (.reg .d)) s

/-- R72: `LD A,E`. -/
abbrev exec_ld_a_e (s : State) : Result := ld8 (.reg .a) (s.readTarget (.reg .e)) s

/-- R72: `LD A,H`. -/
abbrev exec_ld_a_h (s : State) : Result := ld8 (.reg .a) (s.readTarget (.reg .h)) s

/-- R72: `LD A,L`. -/
abbrev exec_ld_a_l (s : State) : Result := ld8 (.reg .a) (s.readTarget (.reg .l)) s

/-- R74: `LD A,(HL)`. -/
abbrev exec_ld_a_mhl (s : State) : Result := ld8 (.reg .a) (s.readTarget .mhl) s

/-- R72: `LD A,A`. -/
abbrev exec_ld_a_a (s : State) : Result := ld8 (.reg .a) (s.readTarget (.reg .a)) s

/-- R84: `LDH (a8),A`. -/
abbrev exec_ldh_ma8_a (a8 : Byte) (s : State) : Result := store8 (highPage a8) (s.getReg .a) s

/-- R86: `LD (C),A`. -/
abbrev exec_ld_mc_a (s : State) : Result := store8 (highPage s.regs.c) (s.getReg .a) s

/-- R82: `LD (a16),A`. -/
abbrev exec_ld_ma16_a (a16 : Word) (s : State) : Result := store8 a16 (s.getReg .a) s

/-- R83: `LDH A,(a8)`. -/
abbrev exec_ldh_a_ma8 (a8 : Byte) (s : State) : Result := ld8 (.reg .a) (s.memRead (highPage a8)) s

/-- R85: `LD A,(C)`. -/
abbrev exec_ld_a_mc (s : State) : Result := ld8 (.reg .a) (s.memRead (highPage s.regs.c)) s

/-- R93: `LD SP,HL`. -/
abbrev exec_ld_sp_hl (s : State) : Result := ld16 .sp s.hl s

/-- R81: `LD A,(a16)`. -/
abbrev exec_ld_a_ma16 (a16 : Word) (s : State) : Result := ld8 (.reg .a) (s.memRead a16) s

end Sys2Proof.Machine
end

