-- ==== Sys2Proof/Machine/Alu16.lean ====
section
/-! DEFINITION. 16-bit arithmetic (spec/42_alu16.md R131-R137). Each instruction has a
meaning of its own over the shared operations. -/

namespace Sys2Proof.Machine

/-! ## Shared operations -/

/-- ADD HL,rr with the pair's value read first (R133). -/
def addHl (v : Word) (s : State) : Result := .next ((s.setHl (s.hl + v)).setFlags (addHlFlags s.hl v s.flags))

/-- `sp_add_e8(x[SP], e)` into a pair (R134-R136). -/
def addSpTo (p : Pair) (e : Byte) (s : State) : Result :=
  .next ((s.setPair p (spAddE8 s.sp e).1).setFlags (spAddE8 s.sp e).2)

/-! ## The meanings -/

/-- R131: `INC BC`. -/
abbrev exec_inc_bc (s : State) : Result := ld16 .bc (s.getPair .bc + 1) s

/-- R133: `ADD HL,BC`. -/
abbrev exec_add_hl_bc (s : State) : Result := addHl (s.getPair .bc) s

/-- R132: `DEC BC`. -/
abbrev exec_dec_bc (s : State) : Result := ld16 .bc (s.getPair .bc - 1) s

/-- R131: `INC DE`. -/
abbrev exec_inc_de (s : State) : Result := ld16 .de (s.getPair .de + 1) s

/-- R133: `ADD HL,DE`. -/
abbrev exec_add_hl_de (s : State) : Result := addHl (s.getPair .de) s

/-- R132: `DEC DE`. -/
abbrev exec_dec_de (s : State) : Result := ld16 .de (s.getPair .de - 1) s

/-- R131: `INC HL`. -/
abbrev exec_inc_hl (s : State) : Result := ld16 .hl (s.getPair .hl + 1) s

/-- R133: `ADD HL,HL`. -/
abbrev exec_add_hl_hl (s : State) : Result := addHl (s.getPair .hl) s

/-- R132: `DEC HL`. -/
abbrev exec_dec_hl (s : State) : Result := ld16 .hl (s.getPair .hl - 1) s

/-- R131: `INC SP`. -/
abbrev exec_inc_sp (s : State) : Result := ld16 .sp (s.getPair .sp + 1) s

/-- R133: `ADD HL,SP`. -/
abbrev exec_add_hl_sp (s : State) : Result := addHl (s.getPair .sp) s

/-- R132: `DEC SP`. -/
abbrev exec_dec_sp (s : State) : Result := ld16 .sp (s.getPair .sp - 1) s

/-- R135: `ADD SP,e8`. -/
abbrev exec_add_sp_e8 (e8 : Byte) (s : State) : Result := addSpTo .sp e8 s

/-- R136: `LD HL,SP+e8`. -/
abbrev exec_ld_hl_sp_e8 (e8 : Byte) (s : State) : Result := addSpTo .hl e8 s

end Sys2Proof.Machine
end

