-- ==== Sys2Proof/Machine/Alu8.lean ====
section
/-! DEFINITION. 8-bit arithmetic and logic (spec/41_alu8.md R94-R130). Each instruction has a
meaning of its own over the shared operations. -/

namespace Sys2Proof.Machine

/-! ## Shared operations -/

/-- An operation of the accumulator with `v`, read once before it starts (R94-R120). -/
def aluA (op : AluOp) (v : Byte) (s : State) : Result :=
  let r := aluResult s.params.adcSbcMode op s.regs.a v s.flagC
  .next ((s.setA r.1).setFlags r.2)

/-- INC of an r8 target (R121, R122). -/
def inc8 (t : Target8) (s : State) : Result :=
  .next ((s.writeTarget t (s.readTarget t + 1)).setFlags (incFlags (s.readTarget t) s.flags))

/-- DEC of an r8 target (R123, R124). -/
def dec8 (t : Target8) (s : State) : Result :=
  .next ((s.writeTarget t (s.readTarget t - 1)).setFlags (decFlags (s.readTarget t) s.flags))

/-- DAA's effect (R125). -/
def decimalAdjust (s : State) : Result :=
  let r := daaResult s.regs.a s.flags
  .next ((s.setA r.1).setFlags r.2)

/-- CPL's effect (R126). -/
def complementA (s : State) : Result :=
  .next ((s.setA (s.regs.a ^^^ 0xFF)).setFlags { s.flags with n := true, h := true })

/-- SCF's and CCF's effect: C written, N and H cleared (R127, R128). -/
def writeCarry (c : Bool) (s : State) : Result := .next (s.setFlags { s.flags with n := false, h := false, c := c })

/-! ## The meanings -/

/-- R121: `INC B`. -/
abbrev exec_inc_b (s : State) : Result := inc8 (.reg .b) s

/-- R123: `DEC B`. -/
abbrev exec_dec_b (s : State) : Result := dec8 (.reg .b) s

/-- R121: `INC C`. -/
abbrev exec_inc_c (s : State) : Result := inc8 (.reg .c) s

/-- R123: `DEC C`. -/
abbrev exec_dec_c (s : State) : Result := dec8 (.reg .c) s

/-- R121: `INC D`. -/
abbrev exec_inc_d (s : State) : Result := inc8 (.reg .d) s

/-- R123: `DEC D`. -/
abbrev exec_dec_d (s : State) : Result := dec8 (.reg .d) s

/-- R121: `INC E`. -/
abbrev exec_inc_e (s : State) : Result := inc8 (.reg .e) s

/-- R123: `DEC E`. -/
abbrev exec_dec_e (s : State) : Result := dec8 (.reg .e) s

/-- R121: `INC H`. -/
abbrev exec_inc_h (s : State) : Result := inc8 (.reg .h) s

/-- R123: `DEC H`. -/
abbrev exec_dec_h (s : State) : Result := dec8 (.reg .h) s

/-- R125: `DAA`. -/
abbrev exec_daa (s : State) : Result := decimalAdjust s

/-- R121: `INC L`. -/
abbrev exec_inc_l (s : State) : Result := inc8 (.reg .l) s

/-- R123: `DEC L`. -/
abbrev exec_dec_l (s : State) : Result := dec8 (.reg .l) s

/-- R126: `CPL`. -/
abbrev exec_cpl (s : State) : Result := complementA s

/-- R122: `INC (HL)`. -/
abbrev exec_inc_mhl (s : State) : Result := inc8 .mhl s

/-- R124: `DEC (HL)`. -/
abbrev exec_dec_mhl (s : State) : Result := dec8 .mhl s

/-- R127: `SCF`. -/
abbrev exec_scf (s : State) : Result := writeCarry true s

/-- R121: `INC A`. -/
abbrev exec_inc_a (s : State) : Result := inc8 (.reg .a) s

/-- R123: `DEC A`. -/
abbrev exec_dec_a (s : State) : Result := dec8 (.reg .a) s

/-- R128: `CCF`. -/
abbrev exec_ccf (s : State) : Result := writeCarry (!s.flagC) s

/-- R97: `ADD A,B`. -/
abbrev exec_add_a_b (s : State) : Result := aluA .add (s.readTarget (.reg .b)) s

/-- R97: `ADD A,C`. -/
abbrev exec_add_a_c (s : State) : Result := aluA .add (s.readTarget (.reg .c)) s

/-- R97: `ADD A,D`. -/
abbrev exec_add_a_d (s : State) : Result := aluA .add (s.readTarget (.reg .d)) s

/-- R97: `ADD A,E`. -/
abbrev exec_add_a_e (s : State) : Result := aluA .add (s.readTarget (.reg .e)) s

/-- R97: `ADD A,H`. -/
abbrev exec_add_a_h (s : State) : Result := aluA .add (s.readTarget (.reg .h)) s

/-- R97: `ADD A,L`. -/
abbrev exec_add_a_l (s : State) : Result := aluA .add (s.readTarget (.reg .l)) s

/-- R98: `ADD A,(HL)`. -/
abbrev exec_add_a_mhl (s : State) : Result := aluA .add (s.readTarget .mhl) s

/-- R97: `ADD A,A`. -/
abbrev exec_add_a_a (s : State) : Result := aluA .add (s.readTarget (.reg .a)) s

/-- R100: `ADC A,B`. -/
abbrev exec_adc_a_b (s : State) : Result := aluA .adc (s.readTarget (.reg .b)) s

/-- R100: `ADC A,C`. -/
abbrev exec_adc_a_c (s : State) : Result := aluA .adc (s.readTarget (.reg .c)) s

/-- R100: `ADC A,D`. -/
abbrev exec_adc_a_d (s : State) : Result := aluA .adc (s.readTarget (.reg .d)) s

/-- R100: `ADC A,E`. -/
abbrev exec_adc_a_e (s : State) : Result := aluA .adc (s.readTarget (.reg .e)) s

/-- R100: `ADC A,H`. -/
abbrev exec_adc_a_h (s : State) : Result := aluA .adc (s.readTarget (.reg .h)) s

/-- R100: `ADC A,L`. -/
abbrev exec_adc_a_l (s : State) : Result := aluA .adc (s.readTarget (.reg .l)) s

/-- R101: `ADC A,(HL)`. -/
abbrev exec_adc_a_mhl (s : State) : Result := aluA .adc (s.readTarget .mhl) s

/-- R100: `ADC A,A`. -/
abbrev exec_adc_a_a (s : State) : Result := aluA .adc (s.readTarget (.reg .a)) s

/-- R103: `SUB B`. -/
abbrev exec_sub_b (s : State) : Result := aluA .sub (s.readTarget (.reg .b)) s

/-- R103: `SUB C`. -/
abbrev exec_sub_c (s : State) : Result := aluA .sub (s.readTarget (.reg .c)) s

/-- R103: `SUB D`. -/
abbrev exec_sub_d (s : State) : Result := aluA .sub (s.readTarget (.reg .d)) s

/-- R103: `SUB E`. -/
abbrev exec_sub_e (s : State) : Result := aluA .sub (s.readTarget (.reg .e)) s

/-- R103: `SUB H`. -/
abbrev exec_sub_h (s : State) : Result := aluA .sub (s.readTarget (.reg .h)) s

/-- R103: `SUB L`. -/
abbrev exec_sub_l (s : State) : Result := aluA .sub (s.readTarget (.reg .l)) s

/-- R104: `SUB (HL)`. -/
abbrev exec_sub_mhl (s : State) : Result := aluA .sub (s.readTarget .mhl) s

/-- R103: `SUB A`. -/
abbrev exec_sub_a (s : State) : Result := aluA .sub (s.readTarget (.reg .a)) s

/-- R106: `SBC A,B`. -/
abbrev exec_sbc_a_b (s : State) : Result := aluA .sbc (s.readTarget (.reg .b)) s

/-- R106: `SBC A,C`. -/
abbrev exec_sbc_a_c (s : State) : Result := aluA .sbc (s.readTarget (.reg .c)) s

/-- R106: `SBC A,D`. -/
abbrev exec_sbc_a_d (s : State) : Result := aluA .sbc (s.readTarget (.reg .d)) s

/-- R106: `SBC A,E`. -/
abbrev exec_sbc_a_e (s : State) : Result := aluA .sbc (s.readTarget (.reg .e)) s

/-- R106: `SBC A,H`. -/
abbrev exec_sbc_a_h (s : State) : Result := aluA .sbc (s.readTarget (.reg .h)) s

/-- R106: `SBC A,L`. -/
abbrev exec_sbc_a_l (s : State) : Result := aluA .sbc (s.readTarget (.reg .l)) s

/-- R107: `SBC A,(HL)`. -/
abbrev exec_sbc_a_mhl (s : State) : Result := aluA .sbc (s.readTarget .mhl) s

/-- R106: `SBC A,A`. -/
abbrev exec_sbc_a_a (s : State) : Result := aluA .sbc (s.readTarget (.reg .a)) s

/-- R109: `AND B`. -/
abbrev exec_and_b (s : State) : Result := aluA .and (s.readTarget (.reg .b)) s

/-- R109: `AND C`. -/
abbrev exec_and_c (s : State) : Result := aluA .and (s.readTarget (.reg .c)) s

/-- R109: `AND D`. -/
abbrev exec_and_d (s : State) : Result := aluA .and (s.readTarget (.reg .d)) s

/-- R109: `AND E`. -/
abbrev exec_and_e (s : State) : Result := aluA .and (s.readTarget (.reg .e)) s

/-- R109: `AND H`. -/
abbrev exec_and_h (s : State) : Result := aluA .and (s.readTarget (.reg .h)) s

/-- R109: `AND L`. -/
abbrev exec_and_l (s : State) : Result := aluA .and (s.readTarget (.reg .l)) s

/-- R110: `AND (HL)`. -/
abbrev exec_and_mhl (s : State) : Result := aluA .and (s.readTarget .mhl) s

/-- R109: `AND A`. -/
abbrev exec_and_a (s : State) : Result := aluA .and (s.readTarget (.reg .a)) s

/-- R112: `XOR B`. -/
abbrev exec_xor_b (s : State) : Result := aluA .xor (s.readTarget (.reg .b)) s

/-- R112: `XOR C`. -/
abbrev exec_xor_c (s : State) : Result := aluA .xor (s.readTarget (.reg .c)) s

/-- R112: `XOR D`. -/
abbrev exec_xor_d (s : State) : Result := aluA .xor (s.readTarget (.reg .d)) s

/-- R112: `XOR E`. -/
abbrev exec_xor_e (s : State) : Result := aluA .xor (s.readTarget (.reg .e)) s

/-- R112: `XOR H`. -/
abbrev exec_xor_h (s : State) : Result := aluA .xor (s.readTarget (.reg .h)) s

/-- R112: `XOR L`. -/
abbrev exec_xor_l (s : State) : Result := aluA .xor (s.readTarget (.reg .l)) s

/-- R113: `XOR (HL)`. -/
abbrev exec_xor_mhl (s : State) : Result := aluA .xor (s.readTarget .mhl) s

/-- R112: `XOR A`. -/
abbrev exec_xor_a (s : State) : Result := aluA .xor (s.readTarget (.reg .a)) s

/-- R115: `OR B`. -/
abbrev exec_or_b (s : State) : Result := aluA .or (s.readTarget (.reg .b)) s

/-- R115: `OR C`. -/
abbrev exec_or_c (s : State) : Result := aluA .or (s.readTarget (.reg .c)) s

/-- R115: `OR D`. -/
abbrev exec_or_d (s : State) : Result := aluA .or (s.readTarget (.reg .d)) s

/-- R115: `OR E`. -/
abbrev exec_or_e (s : State) : Result := aluA .or (s.readTarget (.reg .e)) s

/-- R115: `OR H`. -/
abbrev exec_or_h (s : State) : Result := aluA .or (s.readTarget (.reg .h)) s

/-- R115: `OR L`. -/
abbrev exec_or_l (s : State) : Result := aluA .or (s.readTarget (.reg .l)) s

/-- R116: `OR (HL)`. -/
abbrev exec_or_mhl (s : State) : Result := aluA .or (s.readTarget .mhl) s

/-- R115: `OR A`. -/
abbrev exec_or_a (s : State) : Result := aluA .or (s.readTarget (.reg .a)) s

/-- R118: `CP B`. -/
abbrev exec_cp_b (s : State) : Result := aluA .cp (s.readTarget (.reg .b)) s

/-- R118: `CP C`. -/
abbrev exec_cp_c (s : State) : Result := aluA .cp (s.readTarget (.reg .c)) s

/-- R118: `CP D`. -/
abbrev exec_cp_d (s : State) : Result := aluA .cp (s.readTarget (.reg .d)) s

/-- R118: `CP E`. -/
abbrev exec_cp_e (s : State) : Result := aluA .cp (s.readTarget (.reg .e)) s

/-- R118: `CP H`. -/
abbrev exec_cp_h (s : State) : Result := aluA .cp (s.readTarget (.reg .h)) s

/-- R118: `CP L`. -/
abbrev exec_cp_l (s : State) : Result := aluA .cp (s.readTarget (.reg .l)) s

/-- R119: `CP (HL)`. -/
abbrev exec_cp_mhl (s : State) : Result := aluA .cp (s.readTarget .mhl) s

/-- R118: `CP A`. -/
abbrev exec_cp_a (s : State) : Result := aluA .cp (s.readTarget (.reg .a)) s

/-- R99: `ADD A,n8`. -/
abbrev exec_add_a_n8 (n8 : Byte) (s : State) : Result := aluA .add n8 s

/-- R102: `ADC A,n8`. -/
abbrev exec_adc_a_n8 (n8 : Byte) (s : State) : Result := aluA .adc n8 s

/-- R105: `SUB n8`. -/
abbrev exec_sub_n8 (n8 : Byte) (s : State) : Result := aluA .sub n8 s

/-- R108: `SBC A,n8`. -/
abbrev exec_sbc_a_n8 (n8 : Byte) (s : State) : Result := aluA .sbc n8 s

/-- R111: `AND n8`. -/
abbrev exec_and_n8 (n8 : Byte) (s : State) : Result := aluA .and n8 s

/-- R114: `XOR n8`. -/
abbrev exec_xor_n8 (n8 : Byte) (s : State) : Result := aluA .xor n8 s

/-- R117: `OR n8`. -/
abbrev exec_or_n8 (n8 : Byte) (s : State) : Result := aluA .or n8 s

/-- R120: `CP n8`. -/
abbrev exec_cp_n8 (n8 : Byte) (s : State) : Result := aluA .cp n8 s

end Sys2Proof.Machine
end

