-- ==== Sys2Proof/Machine/BitOps.lean ====
section
/-! DEFINITION. Bit test, reset and set (spec/44_bit.md R159-R164). Each instruction has a
meaning of its own over the shared operations. -/

namespace Sys2Proof.Machine

/-! ## Shared operations -/

/-- BIT b of an r8 target: only flags are written (R159, R160). -/
def testBit (b : Nat) (t : Target8) (s : State) : Result :=
  .next (s.setFlags (bitFlags (s.readTarget t) b s.flags))

/-- RES b of an r8 target: no flag is written, the write happens even when the bit is 0 (R161, R162). -/
def resetBit (b : Nat) (t : Target8) (s : State) : Result :=
  .next (s.writeTarget t (s.readTarget t &&& ~~~(bitMask b)))

/-- SET b of an r8 target (R163, R164). -/
def setBit (b : Nat) (t : Target8) (s : State) : Result := .next (s.writeTarget t (s.readTarget t ||| bitMask b))

/-! ## The meanings -/

/-- R159: `BIT 0,B`. -/
abbrev exec_bit_0_b (s : State) : Result := testBit 0 (.reg .b) s

/-- R159: `BIT 0,C`. -/
abbrev exec_bit_0_c (s : State) : Result := testBit 0 (.reg .c) s

/-- R159: `BIT 0,D`. -/
abbrev exec_bit_0_d (s : State) : Result := testBit 0 (.reg .d) s

/-- R159: `BIT 0,E`. -/
abbrev exec_bit_0_e (s : State) : Result := testBit 0 (.reg .e) s

/-- R159: `BIT 0,H`. -/
abbrev exec_bit_0_h (s : State) : Result := testBit 0 (.reg .h) s

/-- R159: `BIT 0,L`. -/
abbrev exec_bit_0_l (s : State) : Result := testBit 0 (.reg .l) s

/-- R160: `BIT 0,(HL)`. -/
abbrev exec_bit_0_mhl (s : State) : Result := testBit 0 .mhl s

/-- R159: `BIT 0,A`. -/
abbrev exec_bit_0_a (s : State) : Result := testBit 0 (.reg .a) s

/-- R159: `BIT 1,B`. -/
abbrev exec_bit_1_b (s : State) : Result := testBit 1 (.reg .b) s

/-- R159: `BIT 1,C`. -/
abbrev exec_bit_1_c (s : State) : Result := testBit 1 (.reg .c) s

/-- R159: `BIT 1,D`. -/
abbrev exec_bit_1_d (s : State) : Result := testBit 1 (.reg .d) s

/-- R159: `BIT 1,E`. -/
abbrev exec_bit_1_e (s : State) : Result := testBit 1 (.reg .e) s

/-- R159: `BIT 1,H`. -/
abbrev exec_bit_1_h (s : State) : Result := testBit 1 (.reg .h) s

/-- R159: `BIT 1,L`. -/
abbrev exec_bit_1_l (s : State) : Result := testBit 1 (.reg .l) s

/-- R160: `BIT 1,(HL)`. -/
abbrev exec_bit_1_mhl (s : State) : Result := testBit 1 .mhl s

/-- R159: `BIT 1,A`. -/
abbrev exec_bit_1_a (s : State) : Result := testBit 1 (.reg .a) s

/-- R159: `BIT 2,B`. -/
abbrev exec_bit_2_b (s : State) : Result := testBit 2 (.reg .b) s

/-- R159: `BIT 2,C`. -/
abbrev exec_bit_2_c (s : State) : Result := testBit 2 (.reg .c) s

/-- R159: `BIT 2,D`. -/
abbrev exec_bit_2_d (s : State) : Result := testBit 2 (.reg .d) s

/-- R159: `BIT 2,E`. -/
abbrev exec_bit_2_e (s : State) : Result := testBit 2 (.reg .e) s

/-- R159: `BIT 2,H`. -/
abbrev exec_bit_2_h (s : State) : Result := testBit 2 (.reg .h) s

/-- R159: `BIT 2,L`. -/
abbrev exec_bit_2_l (s : State) : Result := testBit 2 (.reg .l) s

/-- R160: `BIT 2,(HL)`. -/
abbrev exec_bit_2_mhl (s : State) : Result := testBit 2 .mhl s

/-- R159: `BIT 2,A`. -/
abbrev exec_bit_2_a (s : State) : Result := testBit 2 (.reg .a) s

/-- R159: `BIT 3,B`. -/
abbrev exec_bit_3_b (s : State) : Result := testBit 3 (.reg .b) s

/-- R159: `BIT 3,C`. -/
abbrev exec_bit_3_c (s : State) : Result := testBit 3 (.reg .c) s

/-- R159: `BIT 3,D`. -/
abbrev exec_bit_3_d (s : State) : Result := testBit 3 (.reg .d) s

/-- R159: `BIT 3,E`. -/
abbrev exec_bit_3_e (s : State) : Result := testBit 3 (.reg .e) s

/-- R159: `BIT 3,H`. -/
abbrev exec_bit_3_h (s : State) : Result := testBit 3 (.reg .h) s

/-- R159: `BIT 3,L`. -/
abbrev exec_bit_3_l (s : State) : Result := testBit 3 (.reg .l) s

/-- R160: `BIT 3,(HL)`. -/
abbrev exec_bit_3_mhl (s : State) : Result := testBit 3 .mhl s

/-- R159: `BIT 3,A`. -/
abbrev exec_bit_3_a (s : State) : Result := testBit 3 (.reg .a) s

/-- R159: `BIT 4,B`. -/
abbrev exec_bit_4_b (s : State) : Result := testBit 4 (.reg .b) s

/-- R159: `BIT 4,C`. -/
abbrev exec_bit_4_c (s : State) : Result := testBit 4 (.reg .c) s

/-- R159: `BIT 4,D`. -/
abbrev exec_bit_4_d (s : State) : Result := testBit 4 (.reg .d) s

/-- R159: `BIT 4,E`. -/
abbrev exec_bit_4_e (s : State) : Result := testBit 4 (.reg .e) s

/-- R159: `BIT 4,H`. -/
abbrev exec_bit_4_h (s : State) : Result := testBit 4 (.reg .h) s

/-- R159: `BIT 4,L`. -/
abbrev exec_bit_4_l (s : State) : Result := testBit 4 (.reg .l) s

/-- R160: `BIT 4,(HL)`. -/
abbrev exec_bit_4_mhl (s : State) : Result := testBit 4 .mhl s

/-- R159: `BIT 4,A`. -/
abbrev exec_bit_4_a (s : State) : Result := testBit 4 (.reg .a) s

/-- R159: `BIT 5,B`. -/
abbrev exec_bit_5_b (s : State) : Result := testBit 5 (.reg .b) s

/-- R159: `BIT 5,C`. -/
abbrev exec_bit_5_c (s : State) : Result := testBit 5 (.reg .c) s

/-- R159: `BIT 5,D`. -/
abbrev exec_bit_5_d (s : State) : Result := testBit 5 (.reg .d) s

/-- R159: `BIT 5,E`. -/
abbrev exec_bit_5_e (s : State) : Result := testBit 5 (.reg .e) s

/-- R159: `BIT 5,H`. -/
abbrev exec_bit_5_h (s : State) : Result := testBit 5 (.reg .h) s

/-- R159: `BIT 5,L`. -/
abbrev exec_bit_5_l (s : State) : Result := testBit 5 (.reg .l) s

/-- R160: `BIT 5,(HL)`. -/
abbrev exec_bit_5_mhl (s : State) : Result := testBit 5 .mhl s

/-- R159: `BIT 5,A`. -/
abbrev exec_bit_5_a (s : State) : Result := testBit 5 (.reg .a) s

/-- R159: `BIT 6,B`. -/
abbrev exec_bit_6_b (s : State) : Result := testBit 6 (.reg .b) s

/-- R159: `BIT 6,C`. -/
abbrev exec_bit_6_c (s : State) : Result := testBit 6 (.reg .c) s

/-- R159: `BIT 6,D`. -/
abbrev exec_bit_6_d (s : State) : Result := testBit 6 (.reg .d) s

/-- R159: `BIT 6,E`. -/
abbrev exec_bit_6_e (s : State) : Result := testBit 6 (.reg .e) s

/-- R159: `BIT 6,H`. -/
abbrev exec_bit_6_h (s : State) : Result := testBit 6 (.reg .h) s

/-- R159: `BIT 6,L`. -/
abbrev exec_bit_6_l (s : State) : Result := testBit 6 (.reg .l) s

/-- R160: `BIT 6,(HL)`. -/
abbrev exec_bit_6_mhl (s : State) : Result := testBit 6 .mhl s

/-- R159: `BIT 6,A`. -/
abbrev exec_bit_6_a (s : State) : Result := testBit 6 (.reg .a) s

/-- R159: `BIT 7,B`. -/
abbrev exec_bit_7_b (s : State) : Result := testBit 7 (.reg .b) s

/-- R159: `BIT 7,C`. -/
abbrev exec_bit_7_c (s : State) : Result := testBit 7 (.reg .c) s

/-- R159: `BIT 7,D`. -/
abbrev exec_bit_7_d (s : State) : Result := testBit 7 (.reg .d) s

/-- R159: `BIT 7,E`. -/
abbrev exec_bit_7_e (s : State) : Result := testBit 7 (.reg .e) s

/-- R159: `BIT 7,H`. -/
abbrev exec_bit_7_h (s : State) : Result := testBit 7 (.reg .h) s

/-- R159: `BIT 7,L`. -/
abbrev exec_bit_7_l (s : State) : Result := testBit 7 (.reg .l) s

/-- R160: `BIT 7,(HL)`. -/
abbrev exec_bit_7_mhl (s : State) : Result := testBit 7 .mhl s

/-- R159: `BIT 7,A`. -/
abbrev exec_bit_7_a (s : State) : Result := testBit 7 (.reg .a) s

/-- R161: `RES 0,B`. -/
abbrev exec_res_0_b (s : State) : Result := resetBit 0 (.reg .b) s

/-- R161: `RES 0,C`. -/
abbrev exec_res_0_c (s : State) : Result := resetBit 0 (.reg .c) s

/-- R161: `RES 0,D`. -/
abbrev exec_res_0_d (s : State) : Result := resetBit 0 (.reg .d) s

/-- R161: `RES 0,E`. -/
abbrev exec_res_0_e (s : State) : Result := resetBit 0 (.reg .e) s

/-- R161: `RES 0,H`. -/
abbrev exec_res_0_h (s : State) : Result := resetBit 0 (.reg .h) s

/-- R161: `RES 0,L`. -/
abbrev exec_res_0_l (s : State) : Result := resetBit 0 (.reg .l) s

/-- R162: `RES 0,(HL)`. -/
abbrev exec_res_0_mhl (s : State) : Result := resetBit 0 .mhl s

/-- R161: `RES 0,A`. -/
abbrev exec_res_0_a (s : State) : Result := resetBit 0 (.reg .a) s

/-- R161: `RES 1,B`. -/
abbrev exec_res_1_b (s : State) : Result := resetBit 1 (.reg .b) s

/-- R161: `RES 1,C`. -/
abbrev exec_res_1_c (s : State) : Result := resetBit 1 (.reg .c) s

/-- R161: `RES 1,D`. -/
abbrev exec_res_1_d (s : State) : Result := resetBit 1 (.reg .d) s

/-- R161: `RES 1,E`. -/
abbrev exec_res_1_e (s : State) : Result := resetBit 1 (.reg .e) s

/-- R161: `RES 1,H`. -/
abbrev exec_res_1_h (s : State) : Result := resetBit 1 (.reg .h) s

/-- R161: `RES 1,L`. -/
abbrev exec_res_1_l (s : State) : Result := resetBit 1 (.reg .l) s

/-- R162: `RES 1,(HL)`. -/
abbrev exec_res_1_mhl (s : State) : Result := resetBit 1 .mhl s

/-- R161: `RES 1,A`. -/
abbrev exec_res_1_a (s : State) : Result := resetBit 1 (.reg .a) s

/-- R161: `RES 2,B`. -/
abbrev exec_res_2_b (s : State) : Result := resetBit 2 (.reg .b) s

/-- R161: `RES 2,C`. -/
abbrev exec_res_2_c (s : State) : Result := resetBit 2 (.reg .c) s

/-- R161: `RES 2,D`. -/
abbrev exec_res_2_d (s : State) : Result := resetBit 2 (.reg .d) s

/-- R161: `RES 2,E`. -/
abbrev exec_res_2_e (s : State) : Result := resetBit 2 (.reg .e) s

/-- R161: `RES 2,H`. -/
abbrev exec_res_2_h (s : State) : Result := resetBit 2 (.reg .h) s

/-- R161: `RES 2,L`. -/
abbrev exec_res_2_l (s : State) : Result := resetBit 2 (.reg .l) s

/-- R162: `RES 2,(HL)`. -/
abbrev exec_res_2_mhl (s : State) : Result := resetBit 2 .mhl s

/-- R161: `RES 2,A`. -/
abbrev exec_res_2_a (s : State) : Result := resetBit 2 (.reg .a) s

/-- R161: `RES 3,B`. -/
abbrev exec_res_3_b (s : State) : Result := resetBit 3 (.reg .b) s

/-- R161: `RES 3,C`. -/
abbrev exec_res_3_c (s : State) : Result := resetBit 3 (.reg .c) s

/-- R161: `RES 3,D`. -/
abbrev exec_res_3_d (s : State) : Result := resetBit 3 (.reg .d) s

/-- R161: `RES 3,E`. -/
abbrev exec_res_3_e (s : State) : Result := resetBit 3 (.reg .e) s

/-- R161: `RES 3,H`. -/
abbrev exec_res_3_h (s : State) : Result := resetBit 3 (.reg .h) s

/-- R161: `RES 3,L`. -/
abbrev exec_res_3_l (s : State) : Result := resetBit 3 (.reg .l) s

/-- R162: `RES 3,(HL)`. -/
abbrev exec_res_3_mhl (s : State) : Result := resetBit 3 .mhl s

/-- R161: `RES 3,A`. -/
abbrev exec_res_3_a (s : State) : Result := resetBit 3 (.reg .a) s

/-- R161: `RES 4,B`. -/
abbrev exec_res_4_b (s : State) : Result := resetBit 4 (.reg .b) s

/-- R161: `RES 4,C`. -/
abbrev exec_res_4_c (s : State) : Result := resetBit 4 (.reg .c) s

/-- R161: `RES 4,D`. -/
abbrev exec_res_4_d (s : State) : Result := resetBit 4 (.reg .d) s

/-- R161: `RES 4,E`. -/
abbrev exec_res_4_e (s : State) : Result := resetBit 4 (.reg .e) s

/-- R161: `RES 4,H`. -/
abbrev exec_res_4_h (s : State) : Result := resetBit 4 (.reg .h) s

/-- R161: `RES 4,L`. -/
abbrev exec_res_4_l (s : State) : Result := resetBit 4 (.reg .l) s

/-- R162: `RES 4,(HL)`. -/
abbrev exec_res_4_mhl (s : State) : Result := resetBit 4 .mhl s

/-- R161: `RES 4,A`. -/
abbrev exec_res_4_a (s : State) : Result := resetBit 4 (.reg .a) s

/-- R161: `RES 5,B`. -/
abbrev exec_res_5_b (s : State) : Result := resetBit 5 (.reg .b) s

/-- R161: `RES 5,C`. -/
abbrev exec_res_5_c (s : State) : Result := resetBit 5 (.reg .c) s

/-- R161: `RES 5,D`. -/
abbrev exec_res_5_d (s : State) : Result := resetBit 5 (.reg .d) s

/-- R161: `RES 5,E`. -/
abbrev exec_res_5_e (s : State) : Result := resetBit 5 (.reg .e) s

/-- R161: `RES 5,H`. -/
abbrev exec_res_5_h (s : State) : Result := resetBit 5 (.reg .h) s

/-- R161: `RES 5,L`. -/
abbrev exec_res_5_l (s : State) : Result := resetBit 5 (.reg .l) s

/-- R162: `RES 5,(HL)`. -/
abbrev exec_res_5_mhl (s : State) : Result := resetBit 5 .mhl s

/-- R161: `RES 5,A`. -/
abbrev exec_res_5_a (s : State) : Result := resetBit 5 (.reg .a) s

/-- R161: `RES 6,B`. -/
abbrev exec_res_6_b (s : State) : Result := resetBit 6 (.reg .b) s

/-- R161: `RES 6,C`. -/
abbrev exec_res_6_c (s : State) : Result := resetBit 6 (.reg .c) s

/-- R161: `RES 6,D`. -/
abbrev exec_res_6_d (s : State) : Result := resetBit 6 (.reg .d) s

/-- R161: `RES 6,E`. -/
abbrev exec_res_6_e (s : State) : Result := resetBit 6 (.reg .e) s

/-- R161: `RES 6,H`. -/
abbrev exec_res_6_h (s : State) : Result := resetBit 6 (.reg .h) s

/-- R161: `RES 6,L`. -/
abbrev exec_res_6_l (s : State) : Result := resetBit 6 (.reg .l) s

/-- R162: `RES 6,(HL)`. -/
abbrev exec_res_6_mhl (s : State) : Result := resetBit 6 .mhl s

/-- R161: `RES 6,A`. -/
abbrev exec_res_6_a (s : State) : Result := resetBit 6 (.reg .a) s

/-- R161: `RES 7,B`. -/
abbrev exec_res_7_b (s : State) : Result := resetBit 7 (.reg .b) s

/-- R161: `RES 7,C`. -/
abbrev exec_res_7_c (s : State) : Result := resetBit 7 (.reg .c) s

/-- R161: `RES 7,D`. -/
abbrev exec_res_7_d (s : State) : Result := resetBit 7 (.reg .d) s

/-- R161: `RES 7,E`. -/
abbrev exec_res_7_e (s : State) : Result := resetBit 7 (.reg .e) s

/-- R161: `RES 7,H`. -/
abbrev exec_res_7_h (s : State) : Result := resetBit 7 (.reg .h) s

/-- R161: `RES 7,L`. -/
abbrev exec_res_7_l (s : State) : Result := resetBit 7 (.reg .l) s

/-- R162: `RES 7,(HL)`. -/
abbrev exec_res_7_mhl (s : State) : Result := resetBit 7 .mhl s

/-- R161: `RES 7,A`. -/
abbrev exec_res_7_a (s : State) : Result := resetBit 7 (.reg .a) s

/-- R163: `SET 0,B`. -/
abbrev exec_set_0_b (s : State) : Result := setBit 0 (.reg .b) s

/-- R163: `SET 0,C`. -/
abbrev exec_set_0_c (s : State) : Result := setBit 0 (.reg .c) s

/-- R163: `SET 0,D`. -/
abbrev exec_set_0_d (s : State) : Result := setBit 0 (.reg .d) s

/-- R163: `SET 0,E`. -/
abbrev exec_set_0_e (s : State) : Result := setBit 0 (.reg .e) s

/-- R163: `SET 0,H`. -/
abbrev exec_set_0_h (s : State) : Result := setBit 0 (.reg .h) s

/-- R163: `SET 0,L`. -/
abbrev exec_set_0_l (s : State) : Result := setBit 0 (.reg .l) s

/-- R164: `SET 0,(HL)`. -/
abbrev exec_set_0_mhl (s : State) : Result := setBit 0 .mhl s

/-- R163: `SET 0,A`. -/
abbrev exec_set_0_a (s : State) : Result := setBit 0 (.reg .a) s

/-- R163: `SET 1,B`. -/
abbrev exec_set_1_b (s : State) : Result := setBit 1 (.reg .b) s

/-- R163: `SET 1,C`. -/
abbrev exec_set_1_c (s : State) : Result := setBit 1 (.reg .c) s

/-- R163: `SET 1,D`. -/
abbrev exec_set_1_d (s : State) : Result := setBit 1 (.reg .d) s

/-- R163: `SET 1,E`. -/
abbrev exec_set_1_e (s : State) : Result := setBit 1 (.reg .e) s

/-- R163: `SET 1,H`. -/
abbrev exec_set_1_h (s : State) : Result := setBit 1 (.reg .h) s

/-- R163: `SET 1,L`. -/
abbrev exec_set_1_l (s : State) : Result := setBit 1 (.reg .l) s

/-- R164: `SET 1,(HL)`. -/
abbrev exec_set_1_mhl (s : State) : Result := setBit 1 .mhl s

/-- R163: `SET 1,A`. -/
abbrev exec_set_1_a (s : State) : Result := setBit 1 (.reg .a) s

/-- R163: `SET 2,B`. -/
abbrev exec_set_2_b (s : State) : Result := setBit 2 (.reg .b) s

/-- R163: `SET 2,C`. -/
abbrev exec_set_2_c (s : State) : Result := setBit 2 (.reg .c) s

/-- R163: `SET 2,D`. -/
abbrev exec_set_2_d (s : State) : Result := setBit 2 (.reg .d) s

/-- R163: `SET 2,E`. -/
abbrev exec_set_2_e (s : State) : Result := setBit 2 (.reg .e) s

/-- R163: `SET 2,H`. -/
abbrev exec_set_2_h (s : State) : Result := setBit 2 (.reg .h) s

/-- R163: `SET 2,L`. -/
abbrev exec_set_2_l (s : State) : Result := setBit 2 (.reg .l) s

/-- R164: `SET 2,(HL)`. -/
abbrev exec_set_2_mhl (s : State) : Result := setBit 2 .mhl s

/-- R163: `SET 2,A`. -/
abbrev exec_set_2_a (s : State) : Result := setBit 2 (.reg .a) s

/-- R163: `SET 3,B`. -/
abbrev exec_set_3_b (s : State) : Result := setBit 3 (.reg .b) s

/-- R163: `SET 3,C`. -/
abbrev exec_set_3_c (s : State) : Result := setBit 3 (.reg .c) s

/-- R163: `SET 3,D`. -/
abbrev exec_set_3_d (s : State) : Result := setBit 3 (.reg .d) s

/-- R163: `SET 3,E`. -/
abbrev exec_set_3_e (s : State) : Result := setBit 3 (.reg .e) s

/-- R163: `SET 3,H`. -/
abbrev exec_set_3_h (s : State) : Result := setBit 3 (.reg .h) s

/-- R163: `SET 3,L`. -/
abbrev exec_set_3_l (s : State) : Result := setBit 3 (.reg .l) s

/-- R164: `SET 3,(HL)`. -/
abbrev exec_set_3_mhl (s : State) : Result := setBit 3 .mhl s

/-- R163: `SET 3,A`. -/
abbrev exec_set_3_a (s : State) : Result := setBit 3 (.reg .a) s

/-- R163: `SET 4,B`. -/
abbrev exec_set_4_b (s : State) : Result := setBit 4 (.reg .b) s

/-- R163: `SET 4,C`. -/
abbrev exec_set_4_c (s : State) : Result := setBit 4 (.reg .c) s

/-- R163: `SET 4,D`. -/
abbrev exec_set_4_d (s : State) : Result := setBit 4 (.reg .d) s

/-- R163: `SET 4,E`. -/
abbrev exec_set_4_e (s : State) : Result := setBit 4 (.reg .e) s

/-- R163: `SET 4,H`. -/
abbrev exec_set_4_h (s : State) : Result := setBit 4 (.reg .h) s

/-- R163: `SET 4,L`. -/
abbrev exec_set_4_l (s : State) : Result := setBit 4 (.reg .l) s

/-- R164: `SET 4,(HL)`. -/
abbrev exec_set_4_mhl (s : State) : Result := setBit 4 .mhl s

/-- R163: `SET 4,A`. -/
abbrev exec_set_4_a (s : State) : Result := setBit 4 (.reg .a) s

/-- R163: `SET 5,B`. -/
abbrev exec_set_5_b (s : State) : Result := setBit 5 (.reg .b) s

/-- R163: `SET 5,C`. -/
abbrev exec_set_5_c (s : State) : Result := setBit 5 (.reg .c) s

/-- R163: `SET 5,D`. -/
abbrev exec_set_5_d (s : State) : Result := setBit 5 (.reg .d) s

/-- R163: `SET 5,E`. -/
abbrev exec_set_5_e (s : State) : Result := setBit 5 (.reg .e) s

/-- R163: `SET 5,H`. -/
abbrev exec_set_5_h (s : State) : Result := setBit 5 (.reg .h) s

/-- R163: `SET 5,L`. -/
abbrev exec_set_5_l (s : State) : Result := setBit 5 (.reg .l) s

/-- R164: `SET 5,(HL)`. -/
abbrev exec_set_5_mhl (s : State) : Result := setBit 5 .mhl s

/-- R163: `SET 5,A`. -/
abbrev exec_set_5_a (s : State) : Result := setBit 5 (.reg .a) s

/-- R163: `SET 6,B`. -/
abbrev exec_set_6_b (s : State) : Result := setBit 6 (.reg .b) s

/-- R163: `SET 6,C`. -/
abbrev exec_set_6_c (s : State) : Result := setBit 6 (.reg .c) s

/-- R163: `SET 6,D`. -/
abbrev exec_set_6_d (s : State) : Result := setBit 6 (.reg .d) s

/-- R163: `SET 6,E`. -/
abbrev exec_set_6_e (s : State) : Result := setBit 6 (.reg .e) s

/-- R163: `SET 6,H`. -/
abbrev exec_set_6_h (s : State) : Result := setBit 6 (.reg .h) s

/-- R163: `SET 6,L`. -/
abbrev exec_set_6_l (s : State) : Result := setBit 6 (.reg .l) s

/-- R164: `SET 6,(HL)`. -/
abbrev exec_set_6_mhl (s : State) : Result := setBit 6 .mhl s

/-- R163: `SET 6,A`. -/
abbrev exec_set_6_a (s : State) : Result := setBit 6 (.reg .a) s

/-- R163: `SET 7,B`. -/
abbrev exec_set_7_b (s : State) : Result := setBit 7 (.reg .b) s

/-- R163: `SET 7,C`. -/
abbrev exec_set_7_c (s : State) : Result := setBit 7 (.reg .c) s

/-- R163: `SET 7,D`. -/
abbrev exec_set_7_d (s : State) : Result := setBit 7 (.reg .d) s

/-- R163: `SET 7,E`. -/
abbrev exec_set_7_e (s : State) : Result := setBit 7 (.reg .e) s

/-- R163: `SET 7,H`. -/
abbrev exec_set_7_h (s : State) : Result := setBit 7 (.reg .h) s

/-- R163: `SET 7,L`. -/
abbrev exec_set_7_l (s : State) : Result := setBit 7 (.reg .l) s

/-- R164: `SET 7,(HL)`. -/
abbrev exec_set_7_mhl (s : State) : Result := setBit 7 .mhl s

/-- R163: `SET 7,A`. -/
abbrev exec_set_7_a (s : State) : Result := setBit 7 (.reg .a) s

end Sys2Proof.Machine
end

