-- ==== Sys2Proof/Machine/Control.lean ====
section
/-! DEFINITION. Control transfer (spec/45_control.md R165-R179). The pc of the state is already past the
instruction (30_encoding.md R56). Each instruction has a
meaning of its own over the shared operations. -/

namespace Sys2Proof.Machine

/-! ## Shared operations -/

/-- `pc <- t` (R166, R168, R176). -/
def jump (t : Word) (s : State) : Result := .next { s with pc := t }

/-- `if cond: pc <- t` (R167, R169). -/
def jumpIf (taken : Bool) (t : Word) (s : State) : Result := if taken then jump t s else .next s

/-- `Push16(pc); pc <- t` (R170, R175). -/
def call (t : Word) (s : State) : Result := .next { s.push16 s.pc with pc := t }

/-- `if cond: Push16(pc); pc <- t` (R171). -/
def callIf (taken : Bool) (t : Word) (s : State) : Result := if taken then call t s else .next s

/-- `pc <- Pop16()` (R172). -/
def ret (s : State) : Result := .next { s.pop16 with pc := s.pop16Value }

/-- `if cond: pc <- Pop16()` (R173). -/
def retIf (taken : Bool) (s : State) : Result := if taken then ret s else .next s

/-! ## The meanings -/

/-- R168: `JR e8`. -/
abbrev exec_jr_e8 (e8 : Byte) (s : State) : Result := jump (s.pc + sext16 e8) s

/-- R169: `JR NZ,e8`. -/
abbrev exec_jr_nz_e8 (e8 : Byte) (s : State) : Result := jumpIf (s.cond .nz) (s.pc + sext16 e8) s

/-- R169: `JR Z,e8`. -/
abbrev exec_jr_z_e8 (e8 : Byte) (s : State) : Result := jumpIf (s.cond .z) (s.pc + sext16 e8) s

/-- R169: `JR NC,e8`. -/
abbrev exec_jr_nc_e8 (e8 : Byte) (s : State) : Result := jumpIf (s.cond .nc) (s.pc + sext16 e8) s

/-- R169: `JR C,e8`. -/
abbrev exec_jr_c_e8 (e8 : Byte) (s : State) : Result := jumpIf (s.cond .c) (s.pc + sext16 e8) s

/-- R173: `RET NZ`. -/
abbrev exec_ret_nz (s : State) : Result := retIf (s.cond .nz) s

/-- R167: `JP NZ,a16`. -/
abbrev exec_jp_nz_a16 (a16 : Word) (s : State) : Result := jumpIf (s.cond .nz) a16 s

/-- R166: `JP a16`. -/
abbrev exec_jp_a16 (a16 : Word) (s : State) : Result := jump a16 s

/-- R171: `CALL NZ,a16`. -/
abbrev exec_call_nz_a16 (a16 : Word) (s : State) : Result := callIf (s.cond .nz) a16 s

/-- R175: `RST 0x00`. -/
abbrev exec_rst_0x00 (s : State) : Result := call 0x0000 s

/-- R173: `RET Z`. -/
abbrev exec_ret_z (s : State) : Result := retIf (s.cond .z) s

/-- R172: `RET`. -/
abbrev exec_ret (s : State) : Result := ret s

/-- R167: `JP Z,a16`. -/
abbrev exec_jp_z_a16 (a16 : Word) (s : State) : Result := jumpIf (s.cond .z) a16 s

/-- R171: `CALL Z,a16`. -/
abbrev exec_call_z_a16 (a16 : Word) (s : State) : Result := callIf (s.cond .z) a16 s

/-- R170: `CALL a16`. -/
abbrev exec_call_a16 (a16 : Word) (s : State) : Result := call a16 s

/-- R175: `RST 0x08`. -/
abbrev exec_rst_0x08 (s : State) : Result := call 0x0008 s

/-- R173: `RET NC`. -/
abbrev exec_ret_nc (s : State) : Result := retIf (s.cond .nc) s

/-- R167: `JP NC,a16`. -/
abbrev exec_jp_nc_a16 (a16 : Word) (s : State) : Result := jumpIf (s.cond .nc) a16 s

/-- R171: `CALL NC,a16`. -/
abbrev exec_call_nc_a16 (a16 : Word) (s : State) : Result := callIf (s.cond .nc) a16 s

/-- R175: `RST 0x10`. -/
abbrev exec_rst_0x10 (s : State) : Result := call 0x0010 s

/-- R173: `RET C`. -/
abbrev exec_ret_c (s : State) : Result := retIf (s.cond .c) s

/-- R174: `RETI`. -/
abbrev exec_reti (s : State) : Result := .next s.returnFromInterrupt

/-- R167: `JP C,a16`. -/
abbrev exec_jp_c_a16 (a16 : Word) (s : State) : Result := jumpIf (s.cond .c) a16 s

/-- R171: `CALL C,a16`. -/
abbrev exec_call_c_a16 (a16 : Word) (s : State) : Result := callIf (s.cond .c) a16 s

/-- R175: `RST 0x18`. -/
abbrev exec_rst_0x18 (s : State) : Result := call 0x0018 s

/-- R175: `RST 0x20`. -/
abbrev exec_rst_0x20 (s : State) : Result := call 0x0020 s

/-- R176: `JP HL`. -/
abbrev exec_jp_hl (s : State) : Result := jump s.hl s

/-- R175: `RST 0x28`. -/
abbrev exec_rst_0x28 (s : State) : Result := call 0x0028 s

/-- R175: `RST 0x30`. -/
abbrev exec_rst_0x30 (s : State) : Result := call 0x0030 s

/-- R175: `RST 0x38`. -/
abbrev exec_rst_0x38 (s : State) : Result := call 0x0038 s

end Sys2Proof.Machine
end

