-- ==== Sys2Proof/Machine/Rotate.lean ====
section
/-! DEFINITION. Rotates, shifts and swap (spec/43_rotate_shift.md R138-R158). Each instruction has a
meaning of its own over the shared operations. -/

namespace Sys2Proof.Machine

/-! ## Shared operations -/

/-- An accumulator form: Z is always cleared (R138-R141). -/
def rotA (op : RotOp) (s : State) : Result :=
  let r := rotResult op s.regs.a s.flagC
  .next ((s.setA r.1).setFlags { z := false, n := false, h := false, c := r.2 })

/-- A CB form on an r8 target (R142-R158). -/
def rot (op : RotOp) (t : Target8) (s : State) : Result :=
  let r := rotResult op (s.readTarget t) s.flagC
  .next ((s.writeTarget t r.1).setFlags (rotFlags r.1 r.2))

/-! ## The meanings -/

/-- R138: `RLCA`. -/
abbrev exec_rlca (s : State) : Result := rotA .rlc s

/-- R140: `RRCA`. -/
abbrev exec_rrca (s : State) : Result := rotA .rrc s

/-- R139: `RLA`. -/
abbrev exec_rla (s : State) : Result := rotA .rl s

/-- R141: `RRA`. -/
abbrev exec_rra (s : State) : Result := rotA .rr s

/-- R143: `RLC B`. -/
abbrev exec_rlc_b (s : State) : Result := rot .rlc (.reg .b) s

/-- R143: `RLC C`. -/
abbrev exec_rlc_c (s : State) : Result := rot .rlc (.reg .c) s

/-- R143: `RLC D`. -/
abbrev exec_rlc_d (s : State) : Result := rot .rlc (.reg .d) s

/-- R143: `RLC E`. -/
abbrev exec_rlc_e (s : State) : Result := rot .rlc (.reg .e) s

/-- R143: `RLC H`. -/
abbrev exec_rlc_h (s : State) : Result := rot .rlc (.reg .h) s

/-- R143: `RLC L`. -/
abbrev exec_rlc_l (s : State) : Result := rot .rlc (.reg .l) s

/-- R144: `RLC (HL)`. -/
abbrev exec_rlc_mhl (s : State) : Result := rot .rlc .mhl s

/-- R143: `RLC A`. -/
abbrev exec_rlc_a (s : State) : Result := rot .rlc (.reg .a) s

/-- R145: `RRC B`. -/
abbrev exec_rrc_b (s : State) : Result := rot .rrc (.reg .b) s

/-- R145: `RRC C`. -/
abbrev exec_rrc_c (s : State) : Result := rot .rrc (.reg .c) s

/-- R145: `RRC D`. -/
abbrev exec_rrc_d (s : State) : Result := rot .rrc (.reg .d) s

/-- R145: `RRC E`. -/
abbrev exec_rrc_e (s : State) : Result := rot .rrc (.reg .e) s

/-- R145: `RRC H`. -/
abbrev exec_rrc_h (s : State) : Result := rot .rrc (.reg .h) s

/-- R145: `RRC L`. -/
abbrev exec_rrc_l (s : State) : Result := rot .rrc (.reg .l) s

/-- R146: `RRC (HL)`. -/
abbrev exec_rrc_mhl (s : State) : Result := rot .rrc .mhl s

/-- R145: `RRC A`. -/
abbrev exec_rrc_a (s : State) : Result := rot .rrc (.reg .a) s

/-- R147: `RL B`. -/
abbrev exec_rl_b (s : State) : Result := rot .rl (.reg .b) s

/-- R147: `RL C`. -/
abbrev exec_rl_c (s : State) : Result := rot .rl (.reg .c) s

/-- R147: `RL D`. -/
abbrev exec_rl_d (s : State) : Result := rot .rl (.reg .d) s

/-- R147: `RL E`. -/
abbrev exec_rl_e (s : State) : Result := rot .rl (.reg .e) s

/-- R147: `RL H`. -/
abbrev exec_rl_h (s : State) : Result := rot .rl (.reg .h) s

/-- R147: `RL L`. -/
abbrev exec_rl_l (s : State) : Result := rot .rl (.reg .l) s

/-- R148: `RL (HL)`. -/
abbrev exec_rl_mhl (s : State) : Result := rot .rl .mhl s

/-- R147: `RL A`. -/
abbrev exec_rl_a (s : State) : Result := rot .rl (.reg .a) s

/-- R149: `RR B`. -/
abbrev exec_rr_b (s : State) : Result := rot .rr (.reg .b) s

/-- R149: `RR C`. -/
abbrev exec_rr_c (s : State) : Result := rot .rr (.reg .c) s

/-- R149: `RR D`. -/
abbrev exec_rr_d (s : State) : Result := rot .rr (.reg .d) s

/-- R149: `RR E`. -/
abbrev exec_rr_e (s : State) : Result := rot .rr (.reg .e) s

/-- R149: `RR H`. -/
abbrev exec_rr_h (s : State) : Result := rot .rr (.reg .h) s

/-- R149: `RR L`. -/
abbrev exec_rr_l (s : State) : Result := rot .rr (.reg .l) s

/-- R150: `RR (HL)`. -/
abbrev exec_rr_mhl (s : State) : Result := rot .rr .mhl s

/-- R149: `RR A`. -/
abbrev exec_rr_a (s : State) : Result := rot .rr (.reg .a) s

/-- R151: `SLA B`. -/
abbrev exec_sla_b (s : State) : Result := rot .sla (.reg .b) s

/-- R151: `SLA C`. -/
abbrev exec_sla_c (s : State) : Result := rot .sla (.reg .c) s

/-- R151: `SLA D`. -/
abbrev exec_sla_d (s : State) : Result := rot .sla (.reg .d) s

/-- R151: `SLA E`. -/
abbrev exec_sla_e (s : State) : Result := rot .sla (.reg .e) s

/-- R151: `SLA H`. -/
abbrev exec_sla_h (s : State) : Result := rot .sla (.reg .h) s

/-- R151: `SLA L`. -/
abbrev exec_sla_l (s : State) : Result := rot .sla (.reg .l) s

/-- R152: `SLA (HL)`. -/
abbrev exec_sla_mhl (s : State) : Result := rot .sla .mhl s

/-- R151: `SLA A`. -/
abbrev exec_sla_a (s : State) : Result := rot .sla (.reg .a) s

/-- R153: `SRA B`. -/
abbrev exec_sra_b (s : State) : Result := rot .sra (.reg .b) s

/-- R153: `SRA C`. -/
abbrev exec_sra_c (s : State) : Result := rot .sra (.reg .c) s

/-- R153: `SRA D`. -/
abbrev exec_sra_d (s : State) : Result := rot .sra (.reg .d) s

/-- R153: `SRA E`. -/
abbrev exec_sra_e (s : State) : Result := rot .sra (.reg .e) s

/-- R153: `SRA H`. -/
abbrev exec_sra_h (s : State) : Result := rot .sra (.reg .h) s

/-- R153: `SRA L`. -/
abbrev exec_sra_l (s : State) : Result := rot .sra (.reg .l) s

/-- R154: `SRA (HL)`. -/
abbrev exec_sra_mhl (s : State) : Result := rot .sra .mhl s

/-- R153: `SRA A`. -/
abbrev exec_sra_a (s : State) : Result := rot .sra (.reg .a) s

/-- R155: `SWAP B`. -/
abbrev exec_swap_b (s : State) : Result := rot .swap (.reg .b) s

/-- R155: `SWAP C`. -/
abbrev exec_swap_c (s : State) : Result := rot .swap (.reg .c) s

/-- R155: `SWAP D`. -/
abbrev exec_swap_d (s : State) : Result := rot .swap (.reg .d) s

/-- R155: `SWAP E`. -/
abbrev exec_swap_e (s : State) : Result := rot .swap (.reg .e) s

/-- R155: `SWAP H`. -/
abbrev exec_swap_h (s : State) : Result := rot .swap (.reg .h) s

/-- R155: `SWAP L`. -/
abbrev exec_swap_l (s : State) : Result := rot .swap (.reg .l) s

/-- R156: `SWAP (HL)`. -/
abbrev exec_swap_mhl (s : State) : Result := rot .swap .mhl s

/-- R155: `SWAP A`. -/
abbrev exec_swap_a (s : State) : Result := rot .swap (.reg .a) s

/-- R157: `SRL B`. -/
abbrev exec_srl_b (s : State) : Result := rot .srl (.reg .b) s

/-- R157: `SRL C`. -/
abbrev exec_srl_c (s : State) : Result := rot .srl (.reg .c) s

/-- R157: `SRL D`. -/
abbrev exec_srl_d (s : State) : Result := rot .srl (.reg .d) s

/-- R157: `SRL E`. -/
abbrev exec_srl_e (s : State) : Result := rot .srl (.reg .e) s

/-- R157: `SRL H`. -/
abbrev exec_srl_h (s : State) : Result := rot .srl (.reg .h) s

/-- R157: `SRL L`. -/
abbrev exec_srl_l (s : State) : Result := rot .srl (.reg .l) s

/-- R158: `SRL (HL)`. -/
abbrev exec_srl_mhl (s : State) : Result := rot .srl .mhl s

/-- R157: `SRL A`. -/
abbrev exec_srl_a (s : State) : Result := rot .srl (.reg .a) s

end Sys2Proof.Machine
end

