-- ==== Sys2Proof/Machine/Prefixed.lean ====
section
/-! DEFINITION. The prefix row (spec/47_system.md R191): the CB operation its second byte selects, read from the
fields of that byte (30_encoding.md R53, R60). Each instruction has a
meaning of its own over the shared operations. -/

namespace Sys2Proof.Machine

/-! ## Shared operations -/

/-- The r8 code of R60. -/
def targetOfCode (code : Nat) : Target8 :=
  match code with
  | 0 => .reg .b
  | 1 => .reg .c
  | 2 => .reg .d
  | 3 => .reg .e
  | 4 => .reg .h
  | 5 => .reg .l
  | 6 => .mhl
  | _ => .reg .a

/-- The operation code ooo of CB `00 ooo rrr` (R53). -/
def rotOpOfCode (code : Nat) : RotOp :=
  match code with
  | 0 => .rlc
  | 1 => .rrc
  | 2 => .rl
  | 3 => .rr
  | 4 => .sla
  | 5 => .sra
  | 6 => .swap
  | _ => .srl

/-- The body of the CB row selected by `la`, a byte `kk bbb ttt` (R53; 44_bit.md). -/
def cbBody (la : Byte) (s : State) : Result :=
  let t := targetOfCode (la.toNat % 8)
  let b := la.toNat / 8 % 8
  match la.toNat / 64 with
  | 0 => rot (rotOpOfCode b) t s
  | 1 => testBit b t s
  | 2 => resetBit b t s
  | _ => setBit b t s

/-! ## The meanings -/

/-- R191: `PREFIX CB`. -/
abbrev exec_prefix_cb (la : Byte) (s : State) : Result := cbBody la s

end Sys2Proof.Machine
end

