-- ==== Sys2Proof/Machine/Stack.lean ====
section
/-! DEFINITION. PUSH and POP (spec/46_stack.md R180-R185). Each instruction has a
meaning of its own over the shared operations. -/

namespace Sys2Proof.Machine

/-! ## Shared operations -/

/-- `Push16(x[rr])` (R182). -/
def push (p : StackPair) (s : State) : Result := .next (s.push16 (s.getStackPair p))

/-- `x[rr] <- Pop16()` (R184). -/
def pop (p : StackPair) (s : State) : Result := .next (s.pop16.setStackPair p s.pop16Value)

/-! ## The meanings -/

/-- R184: `POP BC`. -/
abbrev exec_pop_bc (s : State) : Result := pop .bc s

/-- R182: `PUSH BC`. -/
abbrev exec_push_bc (s : State) : Result := push .bc s

/-- R184: `POP DE`. -/
abbrev exec_pop_de (s : State) : Result := pop .de s

/-- R182: `PUSH DE`. -/
abbrev exec_push_de (s : State) : Result := push .de s

/-- R184: `POP HL`. -/
abbrev exec_pop_hl (s : State) : Result := pop .hl s

/-- R182: `PUSH HL`. -/
abbrev exec_push_hl (s : State) : Result := push .hl s

/-- R184: `POP AF`. -/
abbrev exec_pop_af (s : State) : Result := pop .af s

/-- R182: `PUSH AF`. -/
abbrev exec_push_af (s : State) : Result := push .af s

end Sys2Proof.Machine
end

