-- ==== Sys2Proof/Machine/System.lean ====
section
/-! DEFINITION. System and interrupt-control instructions, and the two fatal errors
(spec/47_system.md R186-R192). Each instruction has a
meaning of its own over the shared operations. -/

namespace Sys2Proof.Machine

/-! ## Shared operations -/

/-- HALT's body (R189): the case the spec calls the HALT bug raises Unimplemented, else the core waits. -/
def haltBody (s : State) : Result :=
  if s.ime = false ∧ s.imeScheduled = false ∧ s.snapshot ≠ 0 then .fault (.unimplemented 0x76)
  else .next { s with halted := true }

/-! ## The meanings -/

/-- R186: `NOP`. -/
abbrev exec_nop (s : State) : Result := .next s

/-- R190: `STOP`. -/
abbrev exec_stop (_n8 : Byte) (_s : State) : Result := .fault (.unimplemented 0x10)

/-- R189: `HALT`. -/
abbrev exec_halt (s : State) : Result := haltBody s

/-- R192: `unsupported byte 0xD3`. -/
abbrev exec_unsupported_d3 (_s : State) : Result := .fault (.unsupported 0xD3)

/-- R192: `unsupported byte 0xDB`. -/
abbrev exec_unsupported_db (_s : State) : Result := .fault (.unsupported 0xDB)

/-- R192: `unsupported byte 0xDD`. -/
abbrev exec_unsupported_dd (_s : State) : Result := .fault (.unsupported 0xDD)

/-- R192: `unsupported byte 0xE3`. -/
abbrev exec_unsupported_e3 (_s : State) : Result := .fault (.unsupported 0xE3)

/-- R192: `unsupported byte 0xE4`. -/
abbrev exec_unsupported_e4 (_s : State) : Result := .fault (.unsupported 0xE4)

/-- R192: `unsupported byte 0xEB`. -/
abbrev exec_unsupported_eb (_s : State) : Result := .fault (.unsupported 0xEB)

/-- R192: `unsupported byte 0xEC`. -/
abbrev exec_unsupported_ec (_s : State) : Result := .fault (.unsupported 0xEC)

/-- R192: `unsupported byte 0xED`. -/
abbrev exec_unsupported_ed (_s : State) : Result := .fault (.unsupported 0xED)

/-- R187: `DI`. -/
abbrev exec_di (s : State) : Result := .next { s with ime := false, imeScheduled := false }

/-- R192: `unsupported byte 0xF4`. -/
abbrev exec_unsupported_f4 (_s : State) : Result := .fault (.unsupported 0xF4)

/-- R188: `EI`. -/
abbrev exec_ei (s : State) : Result := .next { s with imeScheduled := true }

/-- R192: `unsupported byte 0xFC`. -/
abbrev exec_unsupported_fc (_s : State) : Result := .fault (.unsupported 0xFC)

/-- R192: `unsupported byte 0xFD`. -/
abbrev exec_unsupported_fd (_s : State) : Result := .fault (.unsupported 0xFD)

end Sys2Proof.Machine
end

