-- ==== Sys2Proof/WellFormed.lean ====
section
/-! DEFINITION. Which terms of `Instr` are instructions. Every operand is a byte or a word of its full width, so the
one check is that the prefix row is no instruction by itself (spec/47_system.md R191). -/

namespace Sys2Proof

/-- "0xCB is not an instruction by itself" (47_system.md R191): the bytes of a prefix term are those of a CB row.
Every other row is an instruction for all its operands. -/
def Instr.wf : Instr → Bool
  | .prefix_cb _ => false
  | _ => true

end Sys2Proof
end

