-- ==== Sys2Proof/Decode.lean ====
section
/-! DEFINITION. The decoder and the encoder. The two opcode tables are data (spec/30_encoding.md R63-R65), written
cell by cell; the encoder is written from the `encoding` column of spec/opcode_table.json. -/

namespace Sys2Proof

/-- A cell of an opcode table: the format (R53) and the instruction its operand bytes complete. -/
inductive Cell where
  | p1 (i : Instr)
  | p2 (f : Byte → Instr)
  | p3 (f : Word → Instr)

/-- The instruction of a cell, given the two bytes after the opcode: n16 and a16 are low byte first (R57, R58). -/
def Cell.read : Cell → Byte → Byte → Instr
  | .p1 i, _, _ => i
  | .p2 f, b1, _ => f b1
  | .p3 f, b1, b2 => f (mkWord b2 b1)

/-! ## CB_TABLE (R64) -/

/-- Row 0x0x of CB_TABLE (R64). -/
def cbRow0 : List Instr :=
  [.rlc_b, .rlc_c, .rlc_d, .rlc_e, .rlc_h, .rlc_l, .rlc_mhl, .rlc_a, .rrc_b, .rrc_c, .rrc_d, .rrc_e, .rrc_h,
   .rrc_l, .rrc_mhl, .rrc_a]

/-- Row 0x1x of CB_TABLE (R64). -/
def cbRow1 : List Instr :=
  [.rl_b, .rl_c, .rl_d, .rl_e, .rl_h, .rl_l, .rl_mhl, .rl_a, .rr_b, .rr_c, .rr_d, .rr_e, .rr_h, .rr_l, .rr_mhl,
   .rr_a]

/-- Row 0x2x of CB_TABLE (R64). -/
def cbRow2 : List Instr :=
  [.sla_b, .sla_c, .sla_d, .sla_e, .sla_h, .sla_l, .sla_mhl, .sla_a, .sra_b, .sra_c, .sra_d, .sra_e, .sra_h,
   .sra_l, .sra_mhl, .sra_a]

/-- Row 0x3x of CB_TABLE (R64). -/
def cbRow3 : List Instr :=
  [.swap_b, .swap_c, .swap_d, .swap_e, .swap_h, .swap_l, .swap_mhl, .swap_a, .srl_b, .srl_c, .srl_d, .srl_e,
   .srl_h, .srl_l, .srl_mhl, .srl_a]

/-- Row 0x4x of CB_TABLE (R64). -/
def cbRow4 : List Instr :=
  [.bit_0_b, .bit_0_c, .bit_0_d, .bit_0_e, .bit_0_h, .bit_0_l, .bit_0_mhl, .bit_0_a, .bit_1_b, .bit_1_c,
   .bit_1_d, .bit_1_e, .bit_1_h, .bit_1_l, .bit_1_mhl, .bit_1_a]

/-- Row 0x5x of CB_TABLE (R64). -/
def cbRow5 : List Instr :=
  [.bit_2_b, .bit_2_c, .bit_2_d, .bit_2_e, .bit_2_h, .bit_2_l, .bit_2_mhl, .bit_2_a, .bit_3_b, .bit_3_c,
   .bit_3_d, .bit_3_e, .bit_3_h, .bit_3_l, .bit_3_mhl, .bit_3_a]

/-- Row 0x6x of CB_TABLE (R64). -/
def cbRow6 : List Instr :=
  [.bit_4_b, .bit_4_c, .bit_4_d, .bit_4_e, .bit_4_h, .bit_4_l, .bit_4_mhl, .bit_4_a, .bit_5_b, .bit_5_c,
   .bit_5_d, .bit_5_e, .bit_5_h, .bit_5_l, .bit_5_mhl, .bit_5_a]

/-- Row 0x7x of CB_TABLE (R64). -/
def cbRow7 : List Instr :=
  [.bit_6_b, .bit_6_c, .bit_6_d, .bit_6_e, .bit_6_h, .bit_6_l, .bit_6_mhl, .bit_6_a, .bit_7_b, .bit_7_c,
   .bit_7_d, .bit_7_e, .bit_7_h, .bit_7_l, .bit_7_mhl, .bit_7_a]

/-- Row 0x8x of CB_TABLE (R64). -/
def cbRow8 : List Instr :=
  [.res_0_b, .res_0_c, .res_0_d, .res_0_e, .res_0_h, .res_0_l, .res_0_mhl, .res_0_a, .res_1_b, .res_1_c,
   .res_1_d, .res_1_e, .res_1_h, .res_1_l, .res_1_mhl, .res_1_a]

/-- Row 0x9x of CB_TABLE (R64). -/
def cbRow9 : List Instr :=
  [.res_2_b, .res_2_c, .res_2_d, .res_2_e, .res_2_h, .res_2_l, .res_2_mhl, .res_2_a, .res_3_b, .res_3_c,
   .res_3_d, .res_3_e, .res_3_h, .res_3_l, .res_3_mhl, .res_3_a]

/-- Row 0xAx of CB_TABLE (R64). -/
def cbRowA : List Instr :=
  [.res_4_b, .res_4_c, .res_4_d, .res_4_e, .res_4_h, .res_4_l, .res_4_mhl, .res_4_a, .res_5_b, .res_5_c,
   .res_5_d, .res_5_e, .res_5_h, .res_5_l, .res_5_mhl, .res_5_a]

/-- Row 0xBx of CB_TABLE (R64). -/
def cbRowB : List Instr :=
  [.res_6_b, .res_6_c, .res_6_d, .res_6_e, .res_6_h, .res_6_l, .res_6_mhl, .res_6_a, .res_7_b, .res_7_c,
   .res_7_d, .res_7_e, .res_7_h, .res_7_l, .res_7_mhl, .res_7_a]

/-- Row 0xCx of CB_TABLE (R64). -/
def cbRowC : List Instr :=
  [.set_0_b, .set_0_c, .set_0_d, .set_0_e, .set_0_h, .set_0_l, .set_0_mhl, .set_0_a, .set_1_b, .set_1_c,
   .set_1_d, .set_1_e, .set_1_h, .set_1_l, .set_1_mhl, .set_1_a]

/-- Row 0xDx of CB_TABLE (R64). -/
def cbRowD : List Instr :=
  [.set_2_b, .set_2_c, .set_2_d, .set_2_e, .set_2_h, .set_2_l, .set_2_mhl, .set_2_a, .set_3_b, .set_3_c,
   .set_3_d, .set_3_e, .set_3_h, .set_3_l, .set_3_mhl, .set_3_a]

/-- Row 0xEx of CB_TABLE (R64). -/
def cbRowE : List Instr :=
  [.set_4_b, .set_4_c, .set_4_d, .set_4_e, .set_4_h, .set_4_l, .set_4_mhl, .set_4_a, .set_5_b, .set_5_c,
   .set_5_d, .set_5_e, .set_5_h, .set_5_l, .set_5_mhl, .set_5_a]

/-- Row 0xFx of CB_TABLE (R64). -/
def cbRowF : List Instr :=
  [.set_6_b, .set_6_c, .set_6_d, .set_6_e, .set_6_h, .set_6_l, .set_6_mhl, .set_6_a, .set_7_b, .set_7_c,
   .set_7_d, .set_7_e, .set_7_h, .set_7_l, .set_7_mhl, .set_7_a]

/-- CB_TABLE, indexed by the high then the low digit of the byte after 0xCB (R64). -/
def cbRows : List (List Instr) :=
  [cbRow0, cbRow1, cbRow2, cbRow3, cbRow4, cbRow5, cbRow6, cbRow7,
   cbRow8, cbRow9, cbRowA, cbRowB, cbRowC, cbRowD, cbRowE, cbRowF]

/-- `CB_TABLE[la]` (R64). Every index is in the table; the default is never used. -/
def cbTable (la : Byte) : Instr := (cbRows.getD (la.toNat / 16) []).getD (la.toNat % 16) .nop

/-! ## PRIMARY_TABLE (R63) -/

/-- Row 0x0x of PRIMARY_TABLE (R63). -/
def primaryRow0 : List Cell :=
  [.p1 .nop, .p3 .ld_bc_n16, .p1 .ld_mbc_a, .p1 .inc_bc, .p1 .inc_b, .p1 .dec_b, .p2 .ld_b_n8, .p1 .rlca,
   .p3 .ld_ma16_sp, .p1 .add_hl_bc, .p1 .ld_a_mbc, .p1 .dec_bc, .p1 .inc_c, .p1 .dec_c, .p2 .ld_c_n8, .p1 .rrca]

/-- Row 0x1x of PRIMARY_TABLE (R63). -/
def primaryRow1 : List Cell :=
  [.p2 .stop, .p3 .ld_de_n16, .p1 .ld_mde_a, .p1 .inc_de, .p1 .inc_d, .p1 .dec_d, .p2 .ld_d_n8, .p1 .rla,
   .p2 .jr_e8, .p1 .add_hl_de, .p1 .ld_a_mde, .p1 .dec_de, .p1 .inc_e, .p1 .dec_e, .p2 .ld_e_n8, .p1 .rra]

/-- Row 0x2x of PRIMARY_TABLE (R63). -/
def primaryRow2 : List Cell :=
  [.p2 .jr_nz_e8, .p3 .ld_hl_n16, .p1 .ld_mhli_a, .p1 .inc_hl, .p1 .inc_h, .p1 .dec_h, .p2 .ld_h_n8, .p1 .daa,
   .p2 .jr_z_e8, .p1 .add_hl_hl, .p1 .ld_a_mhli, .p1 .dec_hl, .p1 .inc_l, .p1 .dec_l, .p2 .ld_l_n8, .p1 .cpl]

/-- Row 0x3x of PRIMARY_TABLE (R63). -/
def primaryRow3 : List Cell :=
  [.p2 .jr_nc_e8, .p3 .ld_sp_n16, .p1 .ld_mhld_a, .p1 .inc_sp, .p1 .inc_mhl, .p1 .dec_mhl, .p2 .ld_mhl_n8,
   .p1 .scf, .p2 .jr_c_e8, .p1 .add_hl_sp, .p1 .ld_a_mhld, .p1 .dec_sp, .p1 .inc_a, .p1 .dec_a, .p2 .ld_a_n8,
   .p1 .ccf]

/-- Row 0x4x of PRIMARY_TABLE (R63). -/
def primaryRow4 : List Cell :=
  [.p1 .ld_b_b, .p1 .ld_b_c, .p1 .ld_b_d, .p1 .ld_b_e, .p1 .ld_b_h, .p1 .ld_b_l, .p1 .ld_b_mhl, .p1 .ld_b_a,
   .p1 .ld_c_b, .p1 .ld_c_c, .p1 .ld_c_d, .p1 .ld_c_e, .p1 .ld_c_h, .p1 .ld_c_l, .p1 .ld_c_mhl, .p1 .ld_c_a]

/-- Row 0x5x of PRIMARY_TABLE (R63). -/
def primaryRow5 : List Cell :=
  [.p1 .ld_d_b, .p1 .ld_d_c, .p1 .ld_d_d, .p1 .ld_d_e, .p1 .ld_d_h, .p1 .ld_d_l, .p1 .ld_d_mhl, .p1 .ld_d_a,
   .p1 .ld_e_b, .p1 .ld_e_c, .p1 .ld_e_d, .p1 .ld_e_e, .p1 .ld_e_h, .p1 .ld_e_l, .p1 .ld_e_mhl, .p1 .ld_e_a]

/-- Row 0x6x of PRIMARY_TABLE (R63). -/
def primaryRow6 : List Cell :=
  [.p1 .ld_h_b, .p1 .ld_h_c, .p1 .ld_h_d, .p1 .ld_h_e, .p1 .ld_h_h, .p1 .ld_h_l, .p1 .ld_h_mhl, .p1 .ld_h_a,
   .p1 .ld_l_b, .p1 .ld_l_c, .p1 .ld_l_d, .p1 .ld_l_e, .p1 .ld_l_h, .p1 .ld_l_l, .p1 .ld_l_mhl, .p1 .ld_l_a]

/-- Row 0x7x of PRIMARY_TABLE (R63). -/
def primaryRow7 : List Cell :=
  [.p1 .ld_mhl_b, .p1 .ld_mhl_c, .p1 .ld_mhl_d, .p1 .ld_mhl_e, .p1 .ld_mhl_h, .p1 .ld_mhl_l, .p1 .halt,
   .p1 .ld_mhl_a, .p1 .ld_a_b, .p1 .ld_a_c, .p1 .ld_a_d, .p1 .ld_a_e, .p1 .ld_a_h, .p1 .ld_a_l, .p1 .ld_a_mhl,
   .p1 .ld_a_a]

/-- Row 0x8x of PRIMARY_TABLE (R63). -/
def primaryRow8 : List Cell :=
  [.p1 .add_a_b, .p1 .add_a_c, .p1 .add_a_d, .p1 .add_a_e, .p1 .add_a_h, .p1 .add_a_l, .p1 .add_a_mhl,
   .p1 .add_a_a, .p1 .adc_a_b, .p1 .adc_a_c, .p1 .adc_a_d, .p1 .adc_a_e, .p1 .adc_a_h, .p1 .adc_a_l,
   .p1 .adc_a_mhl, .p1 .adc_a_a]

/-- Row 0x9x of PRIMARY_TABLE (R63). -/
def primaryRow9 : List Cell :=
  [.p1 .sub_b, .p1 .sub_c, .p1 .sub_d, .p1 .sub_e, .p1 .sub_h, .p1 .sub_l, .p1 .sub_mhl, .p1 .sub_a,
   .p1 .sbc_a_b, .p1 .sbc_a_c, .p1 .sbc_a_d, .p1 .sbc_a_e, .p1 .sbc_a_h, .p1 .sbc_a_l, .p1 .sbc_a_mhl,
   .p1 .sbc_a_a]

/-- Row 0xAx of PRIMARY_TABLE (R63). -/
def primaryRowA : List Cell :=
  [.p1 .and_b, .p1 .and_c, .p1 .and_d, .p1 .and_e, .p1 .and_h, .p1 .and_l, .p1 .and_mhl, .p1 .and_a, .p1 .xor_b,
   .p1 .xor_c, .p1 .xor_d, .p1 .xor_e, .p1 .xor_h, .p1 .xor_l, .p1 .xor_mhl, .p1 .xor_a]

/-- Row 0xBx of PRIMARY_TABLE (R63). -/
def primaryRowB : List Cell :=
  [.p1 .or_b, .p1 .or_c, .p1 .or_d, .p1 .or_e, .p1 .or_h, .p1 .or_l, .p1 .or_mhl, .p1 .or_a, .p1 .cp_b,
   .p1 .cp_c, .p1 .cp_d, .p1 .cp_e, .p1 .cp_h, .p1 .cp_l, .p1 .cp_mhl, .p1 .cp_a]

/-- Row 0xCx of PRIMARY_TABLE (R63). -/
def primaryRowC : List Cell :=
  [.p1 .ret_nz, .p1 .pop_bc, .p3 .jp_nz_a16, .p3 .jp_a16, .p3 .call_nz_a16, .p1 .push_bc, .p2 .add_a_n8,
   .p1 .rst_0x00, .p1 .ret_z, .p1 .ret, .p3 .jp_z_a16, .p2 cbTable, .p3 .call_z_a16, .p3 .call_a16,
   .p2 .adc_a_n8, .p1 .rst_0x08]

/-- Row 0xDx of PRIMARY_TABLE (R63). -/
def primaryRowD : List Cell :=
  [.p1 .ret_nc, .p1 .pop_de, .p3 .jp_nc_a16, .p1 .unsupported_d3, .p3 .call_nc_a16, .p1 .push_de, .p2 .sub_n8,
   .p1 .rst_0x10, .p1 .ret_c, .p1 .reti, .p3 .jp_c_a16, .p1 .unsupported_db, .p3 .call_c_a16,
   .p1 .unsupported_dd, .p2 .sbc_a_n8, .p1 .rst_0x18]

/-- Row 0xEx of PRIMARY_TABLE (R63). -/
def primaryRowE : List Cell :=
  [.p2 .ldh_ma8_a, .p1 .pop_hl, .p1 .ld_mc_a, .p1 .unsupported_e3, .p1 .unsupported_e4, .p1 .push_hl,
   .p2 .and_n8, .p1 .rst_0x20, .p2 .add_sp_e8, .p1 .jp_hl, .p3 .ld_ma16_a, .p1 .unsupported_eb,
   .p1 .unsupported_ec, .p1 .unsupported_ed, .p2 .xor_n8, .p1 .rst_0x28]

/-- Row 0xFx of PRIMARY_TABLE (R63). -/
def primaryRowF : List Cell :=
  [.p2 .ldh_a_ma8, .p1 .pop_af, .p1 .ld_a_mc, .p1 .di, .p1 .unsupported_f4, .p1 .push_af, .p2 .or_n8,
   .p1 .rst_0x30, .p2 .ld_hl_sp_e8, .p1 .ld_sp_hl, .p3 .ld_a_ma16, .p1 .ei, .p1 .unsupported_fc,
   .p1 .unsupported_fd, .p2 .cp_n8, .p1 .rst_0x38]

/-- PRIMARY_TABLE, indexed by the high then the low digit of the opcode byte (R63). -/
def primaryRows : List (List Cell) :=
  [primaryRow0, primaryRow1, primaryRow2, primaryRow3, primaryRow4, primaryRow5, primaryRow6, primaryRow7,
   primaryRow8, primaryRow9, primaryRowA, primaryRowB, primaryRowC, primaryRowD, primaryRowE, primaryRowF]

/-- `PRIMARY_TABLE[op]` (R63); for 0xCB the lookahead byte selects in CB_TABLE (R55). Every index is in the table;
the default is never used. -/
def primaryTable (op : Byte) : Cell := (primaryRows.getD (op.toNat / 16) []).getD (op.toNat % 16) (.p1 .nop)

/-! ## Decoding -/

/-- `decode(op, la)` (R55) together with the operand bytes: the instruction the three bytes at pc begin with.
It is total: every byte has a cell, the unassigned ones an Unsupported one (R66). -/
def decode3 (op b1 b2 : Byte) : Instr := (primaryTable op).read b1 b2

/-- Why a list of bytes is not decoded. -/
inductive DecodeReject where
  /-- No byte at all. -/
  | empty
  /-- The instruction that `op` begins is longer than the list. -/
  | truncated (op : Byte)
  deriving DecidableEq, Repr

/-- Decoding a list of bytes: the first instruction and the bytes after it, or a rejection by name. -/
def decode : List Byte → Except DecodeReject (Instr × List Byte)
  | [] => .error .empty
  | op :: rest =>
    match primaryTable op, rest with
    | .p1 i, rest => .ok (i, rest)
    | .p2 f, b1 :: rest => .ok (f b1, rest)
    | .p3 f, b1 :: b2 :: rest => .ok (f (mkWord b2 b1), rest)
    | _, _ => .error (.truncated op)

/-! ## Encoding -/

/-- The bytes of an instruction, in ascending address order: the `encoding` column (R53). The prefix row's bytes
are those of the CB row its second byte selects (R191). -/
def encode : Instr → List Byte
  | .nop => [0x00]
  | .ld_bc_n16 n16 => [0x01, Word.lo n16, Word.hi n16]
  | .ld_mbc_a => [0x02]
  | .inc_bc => [0x03]
  | .inc_b => [0x04]
  | .dec_b => [0x05]
  | .ld_b_n8 n8 => [0x06, n8]
  | .rlca => [0x07]
  | .ld_ma16_sp a16 => [0x08, Word.lo a16, Word.hi a16]
  | .add_hl_bc => [0x09]
  | .ld_a_mbc => [0x0A]
  | .dec_bc => [0x0B]
  | .inc_c => [0x0C]
  | .dec_c => [0x0D]
  | .ld_c_n8 n8 => [0x0E, n8]
  | .rrca => [0x0F]
  | .stop n8 => [0x10, n8]
  | .ld_de_n16 n16 => [0x11, Word.lo n16, Word.hi n16]
  | .ld_mde_a => [0x12]
  | .inc_de => [0x13]
  | .inc_d => [0x14]
  | .dec_d => [0x15]
  | .ld_d_n8 n8 => [0x16, n8]
  | .rla => [0x17]
  | .jr_e8 e8 => [0x18, e8]
  | .add_hl_de => [0x19]
  | .ld_a_mde => [0x1A]
  | .dec_de => [0x1B]
  | .inc_e => [0x1C]
  | .dec_e => [0x1D]
  | .ld_e_n8 n8 => [0x1E, n8]
  | .rra => [0x1F]
  | .jr_nz_e8 e8 => [0x20, e8]
  | .ld_hl_n16 n16 => [0x21, Word.lo n16, Word.hi n16]
  | .ld_mhli_a => [0x22]
  | .inc_hl => [0x23]
  | .inc_h => [0x24]
  | .dec_h => [0x25]
  | .ld_h_n8 n8 => [0x26, n8]
  | .daa => [0x27]
  | .jr_z_e8 e8 => [0x28, e8]
  | .add_hl_hl => [0x29]
  | .ld_a_mhli => [0x2A]
  | .dec_hl => [0x2B]
  | .inc_l => [0x2C]
  | .dec_l => [0x2D]
  | .ld_l_n8 n8 => [0x2E, n8]
  | .cpl => [0x2F]
  | .jr_nc_e8 e8 => [0x30, e8]
  | .ld_sp_n16 n16 => [0x31, Word.lo n16, Word.hi n16]
  | .ld_mhld_a => [0x32]
  | .inc_sp => [0x33]
  | .inc_mhl => [0x34]
  | .dec_mhl => [0x35]
  | .ld_mhl_n8 n8 => [0x36, n8]
  | .scf => [0x37]
  | .jr_c_e8 e8 => [0x38, e8]
  | .add_hl_sp => [0x39]
  | .ld_a_mhld => [0x3A]
  | .dec_sp => [0x3B]
  | .inc_a => [0x3C]
  | .dec_a => [0x3D]
  | .ld_a_n8 n8 => [0x3E, n8]
  | .ccf => [0x3F]
  | .ld_b_b => [0x40]
  | .ld_b_c => [0x41]
  | .ld_b_d => [0x42]
  | .ld_b_e => [0x43]
  | .ld_b_h => [0x44]
  | .ld_b_l => [0x45]
  | .ld_b_mhl => [0x46]
  | .ld_b_a => [0x47]
  | .ld_c_b => [0x48]
  | .ld_c_c => [0x49]
  | .ld_c_d => [0x4A]
  | .ld_c_e => [0x4B]
  | .ld_c_h => [0x4C]
  | .ld_c_l => [0x4D]
  | .ld_c_mhl => [0x4E]
  | .ld_c_a => [0x4F]
  | .ld_d_b => [0x50]
  | .ld_d_c => [0x51]
  | .ld_d_d => [0x52]
  | .ld_d_e => [0x53]
  | .ld_d_h => [0x54]
  | .ld_d_l => [0x55]
  | .ld_d_mhl => [0x56]
  | .ld_d_a => [0x57]
  | .ld_e_b => [0x58]
  | .ld_e_c => [0x59]
  | .ld_e_d => [0x5A]
  | .ld_e_e => [0x5B]
  | .ld_e_h => [0x5C]
  | .ld_e_l => [0x5D]
  | .ld_e_mhl => [0x5E]
  | .ld_e_a => [0x5F]
  | .ld_h_b => [0x60]
  | .ld_h_c => [0x61]
  | .ld_h_d => [0x62]
  | .ld_h_e => [0x63]
  | .ld_h_h => [0x64]
  | .ld_h_l => [0x65]
  | .ld_h_mhl => [0x66]
  | .ld_h_a => [0x67]
  | .ld_l_b => [0x68]
  | .ld_l_c => [0x69]
  | .ld_l_d => [0x6A]
  | .ld_l_e => [0x6B]
  | .ld_l_h => [0x6C]
  | .ld_l_l => [0x6D]
  | .ld_l_mhl => [0x6E]
  | .ld_l_a => [0x6F]
  | .ld_mhl_b => [0x70]
  | .ld_mhl_c => [0x71]
  | .ld_mhl_d => [0x72]
  | .ld_mhl_e => [0x73]
  | .ld_mhl_h => [0x74]
  | .ld_mhl_l => [0x75]
  | .halt => [0x76]
  | .ld_mhl_a => [0x77]
  | .ld_a_b => [0x78]
  | .ld_a_c => [0x79]
  | .ld_a_d => [0x7A]
  | .ld_a_e => [0x7B]
  | .ld_a_h => [0x7C]
  | .ld_a_l => [0x7D]
  | .ld_a_mhl => [0x7E]
  | .ld_a_a => [0x7F]
  | .add_a_b => [0x80]
  | .add_a_c => [0x81]
  | .add_a_d => [0x82]
  | .add_a_e => [0x83]
  | .add_a_h => [0x84]
  | .add_a_l => [0x85]
  | .add_a_mhl => [0x86]
  | .add_a_a => [0x87]
  | .adc_a_b => [0x88]
  | .adc_a_c => [0x89]
  | .adc_a_d => [0x8A]
  | .adc_a_e => [0x8B]
  | .adc_a_h => [0x8C]
  | .adc_a_l => [0x8D]
  | .adc_a_mhl => [0x8E]
  | .adc_a_a => [0x8F]
  | .sub_b => [0x90]
  | .sub_c => [0x91]
  | .sub_d => [0x92]
  | .sub_e => [0x93]
  | .sub_h => [0x94]
  | .sub_l => [0x95]
  | .sub_mhl => [0x96]
  | .sub_a => [0x97]
  | .sbc_a_b => [0x98]
  | .sbc_a_c => [0x99]
  | .sbc_a_d => [0x9A]
  | .sbc_a_e => [0x9B]
  | .sbc_a_h => [0x9C]
  | .sbc_a_l => [0x9D]
  | .sbc_a_mhl => [0x9E]
  | .sbc_a_a => [0x9F]
  | .and_b => [0xA0]
  | .and_c => [0xA1]
  | .and_d => [0xA2]
  | .and_e => [0xA3]
  | .and_h => [0xA4]
  | .and_l => [0xA5]
  | .and_mhl => [0xA6]
  | .and_a => [0xA7]
  | .xor_b => [0xA8]
  | .xor_c => [0xA9]
  | .xor_d => [0xAA]
  | .xor_e => [0xAB]
  | .xor_h => [0xAC]
  | .xor_l => [0xAD]
  | .xor_mhl => [0xAE]
  | .xor_a => [0xAF]
  | .or_b => [0xB0]
  | .or_c => [0xB1]
  | .or_d => [0xB2]
  | .or_e => [0xB3]
  | .or_h => [0xB4]
  | .or_l => [0xB5]
  | .or_mhl => [0xB6]
  | .or_a => [0xB7]
  | .cp_b => [0xB8]
  | .cp_c => [0xB9]
  | .cp_d => [0xBA]
  | .cp_e => [0xBB]
  | .cp_h => [0xBC]
  | .cp_l => [0xBD]
  | .cp_mhl => [0xBE]
  | .cp_a => [0xBF]
  | .ret_nz => [0xC0]
  | .pop_bc => [0xC1]
  | .jp_nz_a16 a16 => [0xC2, Word.lo a16, Word.hi a16]
  | .jp_a16 a16 => [0xC3, Word.lo a16, Word.hi a16]
  | .call_nz_a16 a16 => [0xC4, Word.lo a16, Word.hi a16]
  | .push_bc => [0xC5]
  | .add_a_n8 n8 => [0xC6, n8]
  | .rst_0x00 => [0xC7]
  | .ret_z => [0xC8]
  | .ret => [0xC9]
  | .jp_z_a16 a16 => [0xCA, Word.lo a16, Word.hi a16]
  | .prefix_cb la => [0xCB, la]
  | .call_z_a16 a16 => [0xCC, Word.lo a16, Word.hi a16]
  | .call_a16 a16 => [0xCD, Word.lo a16, Word.hi a16]
  | .adc_a_n8 n8 => [0xCE, n8]
  | .rst_0x08 => [0xCF]
  | .ret_nc => [0xD0]
  | .pop_de => [0xD1]
  | .jp_nc_a16 a16 => [0xD2, Word.lo a16, Word.hi a16]
  | .unsupported_d3 => [0xD3]
  | .call_nc_a16 a16 => [0xD4, Word.lo a16, Word.hi a16]
  | .push_de => [0xD5]
  | .sub_n8 n8 => [0xD6, n8]
  | .rst_0x10 => [0xD7]
  | .ret_c => [0xD8]
  | .reti => [0xD9]
  | .jp_c_a16 a16 => [0xDA, Word.lo a16, Word.hi a16]
  | .unsupported_db => [0xDB]
  | .call_c_a16 a16 => [0xDC, Word.lo a16, Word.hi a16]
  | .unsupported_dd => [0xDD]
  | .sbc_a_n8 n8 => [0xDE, n8]
  | .rst_0x18 => [0xDF]
  | .ldh_ma8_a a8 => [0xE0, a8]
  | .pop_hl => [0xE1]
  | .ld_mc_a => [0xE2]
  | .unsupported_e3 => [0xE3]
  | .unsupported_e4 => [0xE4]
  | .push_hl => [0xE5]
  | .and_n8 n8 => [0xE6, n8]
  | .rst_0x20 => [0xE7]
  | .add_sp_e8 e8 => [0xE8, e8]
  | .jp_hl => [0xE9]
  | .ld_ma16_a a16 => [0xEA, Word.lo a16, Word.hi a16]
  | .unsupported_eb => [0xEB]
  | .unsupported_ec => [0xEC]
  | .unsupported_ed => [0xED]
  | .xor_n8 n8 => [0xEE, n8]
  | .rst_0x28 => [0xEF]
  | .ldh_a_ma8 a8 => [0xF0, a8]
  | .pop_af => [0xF1]
  | .ld_a_mc => [0xF2]
  | .di => [0xF3]
  | .unsupported_f4 => [0xF4]
  | .push_af => [0xF5]
  | .or_n8 n8 => [0xF6, n8]
  | .rst_0x30 => [0xF7]
  | .ld_hl_sp_e8 e8 => [0xF8, e8]
  | .ld_sp_hl => [0xF9]
  | .ld_a_ma16 a16 => [0xFA, Word.lo a16, Word.hi a16]
  | .ei => [0xFB]
  | .unsupported_fc => [0xFC]
  | .unsupported_fd => [0xFD]
  | .cp_n8 n8 => [0xFE, n8]
  | .rst_0x38 => [0xFF]
  | .rlc_b => [0xCB, 0x00]
  | .rlc_c => [0xCB, 0x01]
  | .rlc_d => [0xCB, 0x02]
  | .rlc_e => [0xCB, 0x03]
  | .rlc_h => [0xCB, 0x04]
  | .rlc_l => [0xCB, 0x05]
  | .rlc_mhl => [0xCB, 0x06]
  | .rlc_a => [0xCB, 0x07]
  | .rrc_b => [0xCB, 0x08]
  | .rrc_c => [0xCB, 0x09]
  | .rrc_d => [0xCB, 0x0A]
  | .rrc_e => [0xCB, 0x0B]
  | .rrc_h => [0xCB, 0x0C]
  | .rrc_l => [0xCB, 0x0D]
  | .rrc_mhl => [0xCB, 0x0E]
  | .rrc_a => [0xCB, 0x0F]
  | .rl_b => [0xCB, 0x10]
  | .rl_c => [0xCB, 0x11]
  | .rl_d => [0xCB, 0x12]
  | .rl_e => [0xCB, 0x13]
  | .rl_h => [0xCB, 0x14]
  | .rl_l => [0xCB, 0x15]
  | .rl_mhl => [0xCB, 0x16]
  | .rl_a => [0xCB, 0x17]
  | .rr_b => [0xCB, 0x18]
  | .rr_c => [0xCB, 0x19]
  | .rr_d => [0xCB, 0x1A]
  | .rr_e => [0xCB, 0x1B]
  | .rr_h => [0xCB, 0x1C]
  | .rr_l => [0xCB, 0x1D]
  | .rr_mhl => [0xCB, 0x1E]
  | .rr_a => [0xCB, 0x1F]
  | .sla_b => [0xCB, 0x20]
  | .sla_c => [0xCB, 0x21]
  | .sla_d => [0xCB, 0x22]
  | .sla_e => [0xCB, 0x23]
  | .sla_h => [0xCB, 0x24]
  | .sla_l => [0xCB, 0x25]
  | .sla_mhl => [0xCB, 0x26]
  | .sla_a => [0xCB, 0x27]
  | .sra_b => [0xCB, 0x28]
  | .sra_c => [0xCB, 0x29]
  | .sra_d => [0xCB, 0x2A]
  | .sra_e => [0xCB, 0x2B]
  | .sra_h => [0xCB, 0x2C]
  | .sra_l => [0xCB, 0x2D]
  | .sra_mhl => [0xCB, 0x2E]
  | .sra_a => [0xCB, 0x2F]
  | .swap_b => [0xCB, 0x30]
  | .swap_c => [0xCB, 0x31]
  | .swap_d => [0xCB, 0x32]
  | .swap_e => [0xCB, 0x33]
  | .swap_h => [0xCB, 0x34]
  | .swap_l => [0xCB, 0x35]
  | .swap_mhl => [0xCB, 0x36]
  | .swap_a => [0xCB, 0x37]
  | .srl_b => [0xCB, 0x38]
  | .srl_c => [0xCB, 0x39]
  | .srl_d => [0xCB, 0x3A]
  | .srl_e => [0xCB, 0x3B]
  | .srl_h => [0xCB, 0x3C]
  | .srl_l => [0xCB, 0x3D]
  | .srl_mhl => [0xCB, 0x3E]
  | .srl_a => [0xCB, 0x3F]
  | .bit_0_b => [0xCB, 0x40]
  | .bit_0_c => [0xCB, 0x41]
  | .bit_0_d => [0xCB, 0x42]
  | .bit_0_e => [0xCB, 0x43]
  | .bit_0_h => [0xCB, 0x44]
  | .bit_0_l => [0xCB, 0x45]
  | .bit_0_mhl => [0xCB, 0x46]
  | .bit_0_a => [0xCB, 0x47]
  | .bit_1_b => [0xCB, 0x48]
  | .bit_1_c => [0xCB, 0x49]
  | .bit_1_d => [0xCB, 0x4A]
  | .bit_1_e => [0xCB, 0x4B]
  | .bit_1_h => [0xCB, 0x4C]
  | .bit_1_l => [0xCB, 0x4D]
  | .bit_1_mhl => [0xCB, 0x4E]
  | .bit_1_a => [0xCB, 0x4F]
  | .bit_2_b => [0xCB, 0x50]
  | .bit_2_c => [0xCB, 0x51]
  | .bit_2_d => [0xCB, 0x52]
  | .bit_2_e => [0xCB, 0x53]
  | .bit_2_h => [0xCB, 0x54]
  | .bit_2_l => [0xCB, 0x55]
  | .bit_2_mhl => [0xCB, 0x56]
  | .bit_2_a => [0xCB, 0x57]
  | .bit_3_b => [0xCB, 0x58]
  | .bit_3_c => [0xCB, 0x59]
  | .bit_3_d => [0xCB, 0x5A]
  | .bit_3_e => [0xCB, 0x5B]
  | .bit_3_h => [0xCB, 0x5C]
  | .bit_3_l => [0xCB, 0x5D]
  | .bit_3_mhl => [0xCB, 0x5E]
  | .bit_3_a => [0xCB, 0x5F]
  | .bit_4_b => [0xCB, 0x60]
  | .bit_4_c => [0xCB, 0x61]
  | .bit_4_d => [0xCB, 0x62]
  | .bit_4_e => [0xCB, 0x63]
  | .bit_4_h => [0xCB, 0x64]
  | .bit_4_l => [0xCB, 0x65]
  | .bit_4_mhl => [0xCB, 0x66]
  | .bit_4_a => [0xCB, 0x67]
  | .bit_5_b => [0xCB, 0x68]
  | .bit_5_c => [0xCB, 0x69]
  | .bit_5_d => [0xCB, 0x6A]
  | .bit_5_e => [0xCB, 0x6B]
  | .bit_5_h => [0xCB, 0x6C]
  | .bit_5_l => [0xCB, 0x6D]
  | .bit_5_mhl => [0xCB, 0x6E]
  | .bit_5_a => [0xCB, 0x6F]
  | .bit_6_b => [0xCB, 0x70]
  | .bit_6_c => [0xCB, 0x71]
  | .bit_6_d => [0xCB, 0x72]
  | .bit_6_e => [0xCB, 0x73]
  | .bit_6_h => [0xCB, 0x74]
  | .bit_6_l => [0xCB, 0x75]
  | .bit_6_mhl => [0xCB, 0x76]
  | .bit_6_a => [0xCB, 0x77]
  | .bit_7_b => [0xCB, 0x78]
  | .bit_7_c => [0xCB, 0x79]
  | .bit_7_d => [0xCB, 0x7A]
  | .bit_7_e => [0xCB, 0x7B]
  | .bit_7_h => [0xCB, 0x7C]
  | .bit_7_l => [0xCB, 0x7D]
  | .bit_7_mhl => [0xCB, 0x7E]
  | .bit_7_a => [0xCB, 0x7F]
  | .res_0_b => [0xCB, 0x80]
  | .res_0_c => [0xCB, 0x81]
  | .res_0_d => [0xCB, 0x82]
  | .res_0_e => [0xCB, 0x83]
  | .res_0_h => [0xCB, 0x84]
  | .res_0_l => [0xCB, 0x85]
  | .res_0_mhl => [0xCB, 0x86]
  | .res_0_a => [0xCB, 0x87]
  | .res_1_b => [0xCB, 0x88]
  | .res_1_c => [0xCB, 0x89]
  | .res_1_d => [0xCB, 0x8A]
  | .res_1_e => [0xCB, 0x8B]
  | .res_1_h => [0xCB, 0x8C]
  | .res_1_l => [0xCB, 0x8D]
  | .res_1_mhl => [0xCB, 0x8E]
  | .res_1_a => [0xCB, 0x8F]
  | .res_2_b => [0xCB, 0x90]
  | .res_2_c => [0xCB, 0x91]
  | .res_2_d => [0xCB, 0x92]
  | .res_2_e => [0xCB, 0x93]
  | .res_2_h => [0xCB, 0x94]
  | .res_2_l => [0xCB, 0x95]
  | .res_2_mhl => [0xCB, 0x96]
  | .res_2_a => [0xCB, 0x97]
  | .res_3_b => [0xCB, 0x98]
  | .res_3_c => [0xCB, 0x99]
  | .res_3_d => [0xCB, 0x9A]
  | .res_3_e => [0xCB, 0x9B]
  | .res_3_h => [0xCB, 0x9C]
  | .res_3_l => [0xCB, 0x9D]
  | .res_3_mhl => [0xCB, 0x9E]
  | .res_3_a => [0xCB, 0x9F]
  | .res_4_b => [0xCB, 0xA0]
  | .res_4_c => [0xCB, 0xA1]
  | .res_4_d => [0xCB, 0xA2]
  | .res_4_e => [0xCB, 0xA3]
  | .res_4_h => [0xCB, 0xA4]
  | .res_4_l => [0xCB, 0xA5]
  | .res_4_mhl => [0xCB, 0xA6]
  | .res_4_a => [0xCB, 0xA7]
  | .res_5_b => [0xCB, 0xA8]
  | .res_5_c => [0xCB, 0xA9]
  | .res_5_d => [0xCB, 0xAA]
  | .res_5_e => [0xCB, 0xAB]
  | .res_5_h => [0xCB, 0xAC]
  | .res_5_l => [0xCB, 0xAD]
  | .res_5_mhl => [0xCB, 0xAE]
  | .res_5_a => [0xCB, 0xAF]
  | .res_6_b => [0xCB, 0xB0]
  | .res_6_c => [0xCB, 0xB1]
  | .res_6_d => [0xCB, 0xB2]
  | .res_6_e => [0xCB, 0xB3]
  | .res_6_h => [0xCB, 0xB4]
  | .res_6_l => [0xCB, 0xB5]
  | .res_6_mhl => [0xCB, 0xB6]
  | .res_6_a => [0xCB, 0xB7]
  | .res_7_b => [0xCB, 0xB8]
  | .res_7_c => [0xCB, 0xB9]
  | .res_7_d => [0xCB, 0xBA]
  | .res_7_e => [0xCB, 0xBB]
  | .res_7_h => [0xCB, 0xBC]
  | .res_7_l => [0xCB, 0xBD]
  | .res_7_mhl => [0xCB, 0xBE]
  | .res_7_a => [0xCB, 0xBF]
  | .set_0_b => [0xCB, 0xC0]
  | .set_0_c => [0xCB, 0xC1]
  | .set_0_d => [0xCB, 0xC2]
  | .set_0_e => [0xCB, 0xC3]
  | .set_0_h => [0xCB, 0xC4]
  | .set_0_l => [0xCB, 0xC5]
  | .set_0_mhl => [0xCB, 0xC6]
  | .set_0_a => [0xCB, 0xC7]
  | .set_1_b => [0xCB, 0xC8]
  | .set_1_c => [0xCB, 0xC9]
  | .set_1_d => [0xCB, 0xCA]
  | .set_1_e => [0xCB, 0xCB]
  | .set_1_h => [0xCB, 0xCC]
  | .set_1_l => [0xCB, 0xCD]
  | .set_1_mhl => [0xCB, 0xCE]
  | .set_1_a => [0xCB, 0xCF]
  | .set_2_b => [0xCB, 0xD0]
  | .set_2_c => [0xCB, 0xD1]
  | .set_2_d => [0xCB, 0xD2]
  | .set_2_e => [0xCB, 0xD3]
  | .set_2_h => [0xCB, 0xD4]
  | .set_2_l => [0xCB, 0xD5]
  | .set_2_mhl => [0xCB, 0xD6]
  | .set_2_a => [0xCB, 0xD7]
  | .set_3_b => [0xCB, 0xD8]
  | .set_3_c => [0xCB, 0xD9]
  | .set_3_d => [0xCB, 0xDA]
  | .set_3_e => [0xCB, 0xDB]
  | .set_3_h => [0xCB, 0xDC]
  | .set_3_l => [0xCB, 0xDD]
  | .set_3_mhl => [0xCB, 0xDE]
  | .set_3_a => [0xCB, 0xDF]
  | .set_4_b => [0xCB, 0xE0]
  | .set_4_c => [0xCB, 0xE1]
  | .set_4_d => [0xCB, 0xE2]
  | .set_4_e => [0xCB, 0xE3]
  | .set_4_h => [0xCB, 0xE4]
  | .set_4_l => [0xCB, 0xE5]
  | .set_4_mhl => [0xCB, 0xE6]
  | .set_4_a => [0xCB, 0xE7]
  | .set_5_b => [0xCB, 0xE8]
  | .set_5_c => [0xCB, 0xE9]
  | .set_5_d => [0xCB, 0xEA]
  | .set_5_e => [0xCB, 0xEB]
  | .set_5_h => [0xCB, 0xEC]
  | .set_5_l => [0xCB, 0xED]
  | .set_5_mhl => [0xCB, 0xEE]
  | .set_5_a => [0xCB, 0xEF]
  | .set_6_b => [0xCB, 0xF0]
  | .set_6_c => [0xCB, 0xF1]
  | .set_6_d => [0xCB, 0xF2]
  | .set_6_e => [0xCB, 0xF3]
  | .set_6_h => [0xCB, 0xF4]
  | .set_6_l => [0xCB, 0xF5]
  | .set_6_mhl => [0xCB, 0xF6]
  | .set_6_a => [0xCB, 0xF7]
  | .set_7_b => [0xCB, 0xF8]
  | .set_7_c => [0xCB, 0xF9]
  | .set_7_d => [0xCB, 0xFA]
  | .set_7_e => [0xCB, 0xFB]
  | .set_7_h => [0xCB, 0xFC]
  | .set_7_l => [0xCB, 0xFD]
  | .set_7_mhl => [0xCB, 0xFE]
  | .set_7_a => [0xCB, 0xFF]

/-- The `length` column of spec/opcode_table.json, in bytes (R53, R56, R68). -/
def Instr.length : Instr → Nat
  | .nop | .ld_mbc_a | .inc_bc | .inc_b | .dec_b | .rlca | .add_hl_bc | .ld_a_mbc | .dec_bc | .inc_c | .dec_c |
    .rrca | .ld_mde_a | .inc_de | .inc_d | .dec_d | .rla | .add_hl_de | .ld_a_mde | .dec_de | .inc_e | .dec_e |
    .rra | .ld_mhli_a | .inc_hl | .inc_h | .dec_h | .daa | .add_hl_hl | .ld_a_mhli | .dec_hl | .inc_l | .dec_l |
    .cpl | .ld_mhld_a | .inc_sp | .inc_mhl | .dec_mhl | .scf | .add_hl_sp | .ld_a_mhld | .dec_sp | .inc_a |
    .dec_a | .ccf | .ld_b_b | .ld_b_c | .ld_b_d | .ld_b_e | .ld_b_h | .ld_b_l | .ld_b_mhl | .ld_b_a | .ld_c_b |
    .ld_c_c | .ld_c_d | .ld_c_e | .ld_c_h | .ld_c_l | .ld_c_mhl | .ld_c_a | .ld_d_b | .ld_d_c | .ld_d_d |
    .ld_d_e | .ld_d_h | .ld_d_l | .ld_d_mhl | .ld_d_a | .ld_e_b | .ld_e_c | .ld_e_d | .ld_e_e | .ld_e_h |
    .ld_e_l | .ld_e_mhl | .ld_e_a | .ld_h_b | .ld_h_c | .ld_h_d | .ld_h_e | .ld_h_h | .ld_h_l | .ld_h_mhl |
    .ld_h_a | .ld_l_b | .ld_l_c | .ld_l_d | .ld_l_e | .ld_l_h | .ld_l_l | .ld_l_mhl | .ld_l_a | .ld_mhl_b |
    .ld_mhl_c | .ld_mhl_d | .ld_mhl_e | .ld_mhl_h | .ld_mhl_l | .halt | .ld_mhl_a | .ld_a_b | .ld_a_c | .ld_a_d |
    .ld_a_e | .ld_a_h | .ld_a_l | .ld_a_mhl | .ld_a_a | .add_a_b | .add_a_c | .add_a_d | .add_a_e | .add_a_h |
    .add_a_l | .add_a_mhl | .add_a_a | .adc_a_b | .adc_a_c | .adc_a_d | .adc_a_e | .adc_a_h | .adc_a_l |
    .adc_a_mhl | .adc_a_a | .sub_b | .sub_c | .sub_d | .sub_e | .sub_h | .sub_l | .sub_mhl | .sub_a | .sbc_a_b |
    .sbc_a_c | .sbc_a_d | .sbc_a_e | .sbc_a_h | .sbc_a_l | .sbc_a_mhl | .sbc_a_a | .and_b | .and_c | .and_d |
    .and_e | .and_h | .and_l | .and_mhl | .and_a | .xor_b | .xor_c | .xor_d | .xor_e | .xor_h | .xor_l |
    .xor_mhl | .xor_a | .or_b | .or_c | .or_d | .or_e | .or_h | .or_l | .or_mhl | .or_a | .cp_b | .cp_c | .cp_d |
    .cp_e | .cp_h | .cp_l | .cp_mhl | .cp_a | .ret_nz | .pop_bc | .push_bc | .rst_0x00 | .ret_z | .ret |
    .rst_0x08 | .ret_nc | .pop_de | .unsupported_d3 | .push_de | .rst_0x10 | .ret_c | .reti | .unsupported_db |
    .unsupported_dd | .rst_0x18 | .pop_hl | .ld_mc_a | .unsupported_e3 | .unsupported_e4 | .push_hl | .rst_0x20 |
    .jp_hl | .unsupported_eb | .unsupported_ec | .unsupported_ed | .rst_0x28 | .pop_af | .ld_a_mc | .di |
    .unsupported_f4 | .push_af | .rst_0x30 | .ld_sp_hl | .ei | .unsupported_fc | .unsupported_fd | .rst_0x38 => 1
  | .ld_bc_n16 _ | .ld_ma16_sp _ | .ld_de_n16 _ | .ld_hl_n16 _ | .ld_sp_n16 _ | .jp_nz_a16 _ | .jp_a16 _ |
    .call_nz_a16 _ | .jp_z_a16 _ | .call_z_a16 _ | .call_a16 _ | .jp_nc_a16 _ | .call_nc_a16 _ | .jp_c_a16 _ |
    .call_c_a16 _ | .ld_ma16_a _ | .ld_a_ma16 _ => 3
  | .ld_b_n8 _ | .ld_c_n8 _ | .stop _ | .ld_d_n8 _ | .jr_e8 _ | .ld_e_n8 _ | .jr_nz_e8 _ | .ld_h_n8 _ |
    .jr_z_e8 _ | .ld_l_n8 _ | .jr_nc_e8 _ | .ld_mhl_n8 _ | .jr_c_e8 _ | .ld_a_n8 _ | .add_a_n8 _ | .prefix_cb _ |
    .adc_a_n8 _ | .sub_n8 _ | .sbc_a_n8 _ | .ldh_ma8_a _ | .and_n8 _ | .add_sp_e8 _ | .xor_n8 _ | .ldh_a_ma8 _ |
    .or_n8 _ | .ld_hl_sp_e8 _ | .cp_n8 _ | .rlc_b | .rlc_c | .rlc_d | .rlc_e | .rlc_h | .rlc_l | .rlc_mhl |
    .rlc_a | .rrc_b | .rrc_c | .rrc_d | .rrc_e | .rrc_h | .rrc_l | .rrc_mhl | .rrc_a | .rl_b | .rl_c | .rl_d |
    .rl_e | .rl_h | .rl_l | .rl_mhl | .rl_a | .rr_b | .rr_c | .rr_d | .rr_e | .rr_h | .rr_l | .rr_mhl | .rr_a |
    .sla_b | .sla_c | .sla_d | .sla_e | .sla_h | .sla_l | .sla_mhl | .sla_a | .sra_b | .sra_c | .sra_d | .sra_e |
    .sra_h | .sra_l | .sra_mhl | .sra_a | .swap_b | .swap_c | .swap_d | .swap_e | .swap_h | .swap_l | .swap_mhl |
    .swap_a | .srl_b | .srl_c | .srl_d | .srl_e | .srl_h | .srl_l | .srl_mhl | .srl_a | .bit_0_b | .bit_0_c |
    .bit_0_d | .bit_0_e | .bit_0_h | .bit_0_l | .bit_0_mhl | .bit_0_a | .bit_1_b | .bit_1_c | .bit_1_d |
    .bit_1_e | .bit_1_h | .bit_1_l | .bit_1_mhl | .bit_1_a | .bit_2_b | .bit_2_c | .bit_2_d | .bit_2_e |
    .bit_2_h | .bit_2_l | .bit_2_mhl | .bit_2_a | .bit_3_b | .bit_3_c | .bit_3_d | .bit_3_e | .bit_3_h |
    .bit_3_l | .bit_3_mhl | .bit_3_a | .bit_4_b | .bit_4_c | .bit_4_d | .bit_4_e | .bit_4_h | .bit_4_l |
    .bit_4_mhl | .bit_4_a | .bit_5_b | .bit_5_c | .bit_5_d | .bit_5_e | .bit_5_h | .bit_5_l | .bit_5_mhl |
    .bit_5_a | .bit_6_b | .bit_6_c | .bit_6_d | .bit_6_e | .bit_6_h | .bit_6_l | .bit_6_mhl | .bit_6_a |
    .bit_7_b | .bit_7_c | .bit_7_d | .bit_7_e | .bit_7_h | .bit_7_l | .bit_7_mhl | .bit_7_a | .res_0_b |
    .res_0_c | .res_0_d | .res_0_e | .res_0_h | .res_0_l | .res_0_mhl | .res_0_a | .res_1_b | .res_1_c |
    .res_1_d | .res_1_e | .res_1_h | .res_1_l | .res_1_mhl | .res_1_a | .res_2_b | .res_2_c | .res_2_d |
    .res_2_e | .res_2_h | .res_2_l | .res_2_mhl | .res_2_a | .res_3_b | .res_3_c | .res_3_d | .res_3_e |
    .res_3_h | .res_3_l | .res_3_mhl | .res_3_a | .res_4_b | .res_4_c | .res_4_d | .res_4_e | .res_4_h |
    .res_4_l | .res_4_mhl | .res_4_a | .res_5_b | .res_5_c | .res_5_d | .res_5_e | .res_5_h | .res_5_l |
    .res_5_mhl | .res_5_a | .res_6_b | .res_6_c | .res_6_d | .res_6_e | .res_6_h | .res_6_l | .res_6_mhl |
    .res_6_a | .res_7_b | .res_7_c | .res_7_d | .res_7_e | .res_7_h | .res_7_l | .res_7_mhl | .res_7_a |
    .set_0_b | .set_0_c | .set_0_d | .set_0_e | .set_0_h | .set_0_l | .set_0_mhl | .set_0_a | .set_1_b |
    .set_1_c | .set_1_d | .set_1_e | .set_1_h | .set_1_l | .set_1_mhl | .set_1_a | .set_2_b | .set_2_c |
    .set_2_d | .set_2_e | .set_2_h | .set_2_l | .set_2_mhl | .set_2_a | .set_3_b | .set_3_c | .set_3_d |
    .set_3_e | .set_3_h | .set_3_l | .set_3_mhl | .set_3_a | .set_4_b | .set_4_c | .set_4_d | .set_4_e |
    .set_4_h | .set_4_l | .set_4_mhl | .set_4_a | .set_5_b | .set_5_c | .set_5_d | .set_5_e | .set_5_h |
    .set_5_l | .set_5_mhl | .set_5_a | .set_6_b | .set_6_c | .set_6_d | .set_6_e | .set_6_h | .set_6_l |
    .set_6_mhl | .set_6_a | .set_7_b | .set_7_c | .set_7_d | .set_7_e | .set_7_h | .set_7_l | .set_7_mhl |
    .set_7_a => 2

/-! ## The words of spec/opcode_table.json -/

/-- The first three bytes of an instruction whose bits are `w` as spec/opcode_table.json numbers them. The table
writes a CB row as the 16-bit number 0xCBxx, the first byte on top (R65); every other word has its first byte in
bits 7..0 (log entry 10). The bits above `nbits` are zero. -/
def tableBytes (nbits w : Nat) : Byte × Byte × Byte :=
  let v := w % 2 ^ nbits
  if nbits = 16 ∧ v / 256 = 0xCB then (0xCB, BitVec.ofNat 8 (v % 256), 0)
  else (BitVec.ofNat 8 (v % 256), BitVec.ofNat 8 (v / 256 % 256), BitVec.ofNat 8 (v / 65536 % 256))

/-- The instruction the decoder reads from such a word; the decoder refuses none. -/
def decodeTableWord (nbits w : Nat) : Option Instr :=
  some (decode3 (tableBytes nbits w).1 (tableBytes nbits w).2.1 (tableBytes nbits w).2.2)

end Sys2Proof
end

