-- ==== Sys2Proof/Machine/Fetch.lean ====
section
/-! DEFINITION. What a step does around an instruction's body (spec/30_encoding.md R54-R58, R70), the value it
returns (92 D18), and how bytes come into the machine from outside (70_reset_and_hazards.md R227). -/

namespace Sys2Proof.Machine

/-- The instruction at pc. The opcode, the lookahead byte and the byte after it are read at ascending addresses
modulo 2^16 (R54, R57, R58); reads have no side effect (20_memory.md R45), so reading all three is
unobservable (log entry 5). -/
def State.fetch (s : State) : Instr := decode3 (s.memRead s.pc) (s.memRead (s.pc + 1)) (s.memRead (s.pc + 2))

/-- `pc <- trunc_16(pc0 + length)`, before the body (R56). -/
def State.advancePc (n : Nat) (s : State) : State := { s with pc := s.pc + BitVec.ofNat 16 n }

/-- What follows the body: the cost is reported, then the step tail runs (R54). -/
def State.complete (sched0 : Bool) (cycles : Nat) (s : State) : State := (s.reportCycles cycles).stepTail sched0

/-- The value op of `Ok(op)` that a step from `s` returns when it does not raise: 0x76 for a halted step, else the
opcode byte, 0xCB for an extended opcode (R54, D18; 47_system.md R193). -/
def stepValue (s : State) : Byte := if s.halted then 0x76 else s.memRead s.pc

/-- The host's loading of bytes at ascending addresses, each through the routing (70_reset_and_hazards.md R227). -/
def State.hostLoad (a : Word) : List Byte → State → State
  | [], s => s
  | v :: bs, s => State.hostLoad (a + 1) bs (s.memWrite a v)

/-- The state in which a read of `a` gives `v`. Outside 0xFF04 it is a write through the routing; at 0xFF04 it
sets DIV itself, which the host may do (92 D31). -/
def State.poke (a : Word) (v : Byte) (s : State) : State :=
  if a = addrDiv then { s with timer := { s.timer with div := v } } else s.memWrite a v

/-- `s` with the three bytes of a table word at pc, and not halted, since a halted step fetches nothing
(47_system.md R193; log entry 11). -/
def State.placeAtPc (bs : Byte × Byte × Byte) (s : State) : State :=
  ((({ s with halted := false }).poke s.pc bs.1).poke (s.pc + 1) bs.2.1).poke (s.pc + 2) bs.2.2

end Sys2Proof.Machine
end

