-- ==== Sys2Proof/Machine/Step.lean ====
section
/-! DEFINITION. One step of CORE (spec/30_encoding.md R54). -/

namespace Sys2Proof.Machine

/-- `step()` (R54): a halted step, or fetch, advance pc, execute, report the cost, run the tail. A raise ends the
step with the error and leaves the state as it was (00_scope.md R10). -/
def step (s : State) : Host.Outcome State Fault Refusal :=
  if s.halted then .next s.haltedStep
  else
    match exec s.fetch (s.advancePc s.fetch.length) with
    | .next t => .next (t.complete s.imeScheduled (cost s.fetch s))
    | .fault r => .fault r
    | .refused r => .refused r

/-- `s` with the instruction of a table word placed where `step` fetches next, so that the next step runs it
(log entry 11). -/
def State.withFetchWord (s : State) (nbits w : Nat) : State := s.placeAtPc (tableBytes nbits w)

end Sys2Proof.Machine
end

