-- ==== Sys2Proof/Machine/Rows.lean ====
section
/-! DEFINITION. The rows of spec/opcode_table.json by their operands (spec/30_encoding.md R53, R60-R62), and what a
row writes (10_state.md R33, R34; the table's `flags_ZNHC` column). The statements are written in these terms;
no meaning uses them. -/

namespace Sys2Proof

/-! ## Operand codes -/

/-- The r8 code (R60). -/
def Reg8.code : Reg8 → Nat
  | .b => 0
  | .c => 1
  | .d => 2
  | .e => 3
  | .h => 4
  | .l => 5
  | .a => 7

/-- The code of a pair of group 1 (R61). -/
def Pair.code : Pair → Nat
  | .bc => 0
  | .de => 1
  | .hl => 2
  | .sp => 3

/-- The code of a pair of group 2 (R61). -/
def StackPair.code : StackPair → Nat
  | .bc => 0
  | .de => 1
  | .hl => 2
  | .af => 3

/-- The condition code (R62). -/
def Cond.code : Cond → Nat
  | .nz => 0
  | .z => 1
  | .nc => 2
  | .c => 3

/-- The code ooo of an ALU operation (R53). -/
def AluOp.code : AluOp → Nat
  | .add => 0
  | .adc => 1
  | .sub => 2
  | .sbc => 3
  | .and => 4
  | .xor => 5
  | .or => 6
  | .cp => 7

/-- The code ooo of a CB rotate or shift (R53). -/
def RotOp.code : RotOp → Nat
  | .rlc => 0
  | .rrc => 1
  | .rl => 2
  | .rr => 3
  | .sla => 4
  | .sra => 5
  | .swap => 6
  | .srl => 7

end Sys2Proof

namespace Sys2Proof.Machine

/-! ## The rows by their operands -/

/-- LD r8,r8 (R72). -/
def ldRegReg : Reg8 → Reg8 → Instr
  | .b, .b => .ld_b_b
  | .b, .c => .ld_b_c
  | .b, .d => .ld_b_d
  | .b, .e => .ld_b_e
  | .b, .h => .ld_b_h
  | .b, .l => .ld_b_l
  | .b, .a => .ld_b_a
  | .c, .b => .ld_c_b
  | .c, .c => .ld_c_c
  | .c, .d => .ld_c_d
  | .c, .e => .ld_c_e
  | .c, .h => .ld_c_h
  | .c, .l => .ld_c_l
  | .c, .a => .ld_c_a
  | .d, .b => .ld_d_b
  | .d, .c => .ld_d_c
  | .d, .d => .ld_d_d
  | .d, .e => .ld_d_e
  | .d, .h => .ld_d_h
  | .d, .l => .ld_d_l
  | .d, .a => .ld_d_a
  | .e, .b => .ld_e_b
  | .e, .c => .ld_e_c
  | .e, .d => .ld_e_d
  | .e, .e => .ld_e_e
  | .e, .h => .ld_e_h
  | .e, .l => .ld_e_l
  | .e, .a => .ld_e_a
  | .h, .b => .ld_h_b
  | .h, .c => .ld_h_c
  | .h, .d => .ld_h_d
  | .h, .e => .ld_h_e
  | .h, .h => .ld_h_h
  | .h, .l => .ld_h_l
  | .h, .a => .ld_h_a
  | .l, .b => .ld_l_b
  | .l, .c => .ld_l_c
  | .l, .d => .ld_l_d
  | .l, .e => .ld_l_e
  | .l, .h => .ld_l_h
  | .l, .l => .ld_l_l
  | .l, .a => .ld_l_a
  | .a, .b => .ld_a_b
  | .a, .c => .ld_a_c
  | .a, .d => .ld_a_d
  | .a, .e => .ld_a_e
  | .a, .h => .ld_a_h
  | .a, .l => .ld_a_l
  | .a, .a => .ld_a_a

/-- LD r8,n8 (R73). -/
def ldRegImm (n8 : Byte) : Reg8 → Instr
  | .b => .ld_b_n8 n8
  | .c => .ld_c_n8 n8
  | .d => .ld_d_n8 n8
  | .e => .ld_e_n8 n8
  | .h => .ld_h_n8 n8
  | .l => .ld_l_n8 n8
  | .a => .ld_a_n8 n8

/-- LD r8,(HL) (R74). -/
def ldRegMhl : Reg8 → Instr
  | .b => .ld_b_mhl
  | .c => .ld_c_mhl
  | .d => .ld_d_mhl
  | .e => .ld_e_mhl
  | .h => .ld_h_mhl
  | .l => .ld_l_mhl
  | .a => .ld_a_mhl

/-- LD (HL),r8 (R75). -/
def ldMhlReg : Reg8 → Instr
  | .b => .ld_mhl_b
  | .c => .ld_mhl_c
  | .d => .ld_mhl_d
  | .e => .ld_mhl_e
  | .h => .ld_mhl_h
  | .l => .ld_mhl_l
  | .a => .ld_mhl_a

/-- LD rr,n16 (R91). -/
def ldPairImm (n16 : Word) : Pair → Instr
  | .bc => .ld_bc_n16 n16
  | .de => .ld_de_n16 n16
  | .hl => .ld_hl_n16 n16
  | .sp => .ld_sp_n16 n16

/-- The r8 form of an 8-bit ALU operation (R94). -/
def aluReg : AluOp → Reg8 → Instr
  | .add, .b => .add_a_b
  | .add, .c => .add_a_c
  | .add, .d => .add_a_d
  | .add, .e => .add_a_e
  | .add, .h => .add_a_h
  | .add, .l => .add_a_l
  | .add, .a => .add_a_a
  | .adc, .b => .adc_a_b
  | .adc, .c => .adc_a_c
  | .adc, .d => .adc_a_d
  | .adc, .e => .adc_a_e
  | .adc, .h => .adc_a_h
  | .adc, .l => .adc_a_l
  | .adc, .a => .adc_a_a
  | .sub, .b => .sub_b
  | .sub, .c => .sub_c
  | .sub, .d => .sub_d
  | .sub, .e => .sub_e
  | .sub, .h => .sub_h
  | .sub, .l => .sub_l
  | .sub, .a => .sub_a
  | .sbc, .b => .sbc_a_b
  | .sbc, .c => .sbc_a_c
  | .sbc, .d => .sbc_a_d
  | .sbc, .e => .sbc_a_e
  | .sbc, .h => .sbc_a_h
  | .sbc, .l => .sbc_a_l
  | .sbc, .a => .sbc_a_a
  | .and, .b => .and_b
  | .and, .c => .and_c
  | .and, .d => .and_d
  | .and, .e => .and_e
  | .and, .h => .and_h
  | .and, .l => .and_l
  | .and, .a => .and_a
  | .xor, .b => .xor_b
  | .xor, .c => .xor_c
  | .xor, .d => .xor_d
  | .xor, .e => .xor_e
  | .xor, .h => .xor_h
  | .xor, .l => .xor_l
  | .xor, .a => .xor_a
  | .or, .b => .or_b
  | .or, .c => .or_c
  | .or, .d => .or_d
  | .or, .e => .or_e
  | .or, .h => .or_h
  | .or, .l => .or_l
  | .or, .a => .or_a
  | .cp, .b => .cp_b
  | .cp, .c => .cp_c
  | .cp, .d => .cp_d
  | .cp, .e => .cp_e
  | .cp, .h => .cp_h
  | .cp, .l => .cp_l
  | .cp, .a => .cp_a

/-- The (HL) form of an 8-bit ALU operation (R94). -/
def aluMhl : AluOp → Instr
  | .add => .add_a_mhl
  | .adc => .adc_a_mhl
  | .sub => .sub_mhl
  | .sbc => .sbc_a_mhl
  | .and => .and_mhl
  | .xor => .xor_mhl
  | .or => .or_mhl
  | .cp => .cp_mhl

/-- The n8 form of an 8-bit ALU operation (R94). -/
def aluImm (n8 : Byte) : AluOp → Instr
  | .add => .add_a_n8 n8
  | .adc => .adc_a_n8 n8
  | .sub => .sub_n8 n8
  | .sbc => .sbc_a_n8 n8
  | .and => .and_n8 n8
  | .xor => .xor_n8 n8
  | .or => .or_n8 n8
  | .cp => .cp_n8 n8

/-- INC r8 (R121). -/
def incReg : Reg8 → Instr
  | .b => .inc_b
  | .c => .inc_c
  | .d => .inc_d
  | .e => .inc_e
  | .h => .inc_h
  | .l => .inc_l
  | .a => .inc_a

/-- DEC r8 (R123). -/
def decReg : Reg8 → Instr
  | .b => .dec_b
  | .c => .dec_c
  | .d => .dec_d
  | .e => .dec_e
  | .h => .dec_h
  | .l => .dec_l
  | .a => .dec_a

/-- INC rr (R131). -/
def incPair : Pair → Instr
  | .bc => .inc_bc
  | .de => .inc_de
  | .hl => .inc_hl
  | .sp => .inc_sp

/-- DEC rr (R132). -/
def decPair : Pair → Instr
  | .bc => .dec_bc
  | .de => .dec_de
  | .hl => .dec_hl
  | .sp => .dec_sp

/-- ADD HL,rr (R133). -/
def addHlPair : Pair → Instr
  | .bc => .add_hl_bc
  | .de => .add_hl_de
  | .hl => .add_hl_hl
  | .sp => .add_hl_sp

/-- A CB rotate, shift or swap of a register (R143-R157). -/
def rotReg : RotOp → Reg8 → Instr
  | .rlc, .b => .rlc_b
  | .rlc, .c => .rlc_c
  | .rlc, .d => .rlc_d
  | .rlc, .e => .rlc_e
  | .rlc, .h => .rlc_h
  | .rlc, .l => .rlc_l
  | .rlc, .a => .rlc_a
  | .rrc, .b => .rrc_b
  | .rrc, .c => .rrc_c
  | .rrc, .d => .rrc_d
  | .rrc, .e => .rrc_e
  | .rrc, .h => .rrc_h
  | .rrc, .l => .rrc_l
  | .rrc, .a => .rrc_a
  | .rl, .b => .rl_b
  | .rl, .c => .rl_c
  | .rl, .d => .rl_d
  | .rl, .e => .rl_e
  | .rl, .h => .rl_h
  | .rl, .l => .rl_l
  | .rl, .a => .rl_a
  | .rr, .b => .rr_b
  | .rr, .c => .rr_c
  | .rr, .d => .rr_d
  | .rr, .e => .rr_e
  | .rr, .h => .rr_h
  | .rr, .l => .rr_l
  | .rr, .a => .rr_a
  | .sla, .b => .sla_b
  | .sla, .c => .sla_c
  | .sla, .d => .sla_d
  | .sla, .e => .sla_e
  | .sla, .h => .sla_h
  | .sla, .l => .sla_l
  | .sla, .a => .sla_a
  | .sra, .b => .sra_b
  | .sra, .c => .sra_c
  | .sra, .d => .sra_d
  | .sra, .e => .sra_e
  | .sra, .h => .sra_h
  | .sra, .l => .sra_l
  | .sra, .a => .sra_a
  | .swap, .b => .swap_b
  | .swap, .c => .swap_c
  | .swap, .d => .swap_d
  | .swap, .e => .swap_e
  | .swap, .h => .swap_h
  | .swap, .l => .swap_l
  | .swap, .a => .swap_a
  | .srl, .b => .srl_b
  | .srl, .c => .srl_c
  | .srl, .d => .srl_d
  | .srl, .e => .srl_e
  | .srl, .h => .srl_h
  | .srl, .l => .srl_l
  | .srl, .a => .srl_a

/-- A CB rotate, shift or swap of the byte at HL (R144-R158). -/
def rotMhl : RotOp → Instr
  | .rlc => .rlc_mhl
  | .rrc => .rrc_mhl
  | .rl => .rl_mhl
  | .rr => .rr_mhl
  | .sla => .sla_mhl
  | .sra => .sra_mhl
  | .swap => .swap_mhl
  | .srl => .srl_mhl

/-- BIT b,r8 (R159). -/
def bitReg : Fin 8 → Reg8 → Instr
  | 0, .b => .bit_0_b
  | 0, .c => .bit_0_c
  | 0, .d => .bit_0_d
  | 0, .e => .bit_0_e
  | 0, .h => .bit_0_h
  | 0, .l => .bit_0_l
  | 0, .a => .bit_0_a
  | 1, .b => .bit_1_b
  | 1, .c => .bit_1_c
  | 1, .d => .bit_1_d
  | 1, .e => .bit_1_e
  | 1, .h => .bit_1_h
  | 1, .l => .bit_1_l
  | 1, .a => .bit_1_a
  | 2, .b => .bit_2_b
  | 2, .c => .bit_2_c
  | 2, .d => .bit_2_d
  | 2, .e => .bit_2_e
  | 2, .h => .bit_2_h
  | 2, .l => .bit_2_l
  | 2, .a => .bit_2_a
  | 3, .b => .bit_3_b
  | 3, .c => .bit_3_c
  | 3, .d => .bit_3_d
  | 3, .e => .bit_3_e
  | 3, .h => .bit_3_h
  | 3, .l => .bit_3_l
  | 3, .a => .bit_3_a
  | 4, .b => .bit_4_b
  | 4, .c => .bit_4_c
  | 4, .d => .bit_4_d
  | 4, .e => .bit_4_e
  | 4, .h => .bit_4_h
  | 4, .l => .bit_4_l
  | 4, .a => .bit_4_a
  | 5, .b => .bit_5_b
  | 5, .c => .bit_5_c
  | 5, .d => .bit_5_d
  | 5, .e => .bit_5_e
  | 5, .h => .bit_5_h
  | 5, .l => .bit_5_l
  | 5, .a => .bit_5_a
  | 6, .b => .bit_6_b
  | 6, .c => .bit_6_c
  | 6, .d => .bit_6_d
  | 6, .e => .bit_6_e
  | 6, .h => .bit_6_h
  | 6, .l => .bit_6_l
  | 6, .a => .bit_6_a
  | 7, .b => .bit_7_b
  | 7, .c => .bit_7_c
  | 7, .d => .bit_7_d
  | 7, .e => .bit_7_e
  | 7, .h => .bit_7_h
  | 7, .l => .bit_7_l
  | 7, .a => .bit_7_a

/-- BIT b,(HL) (R160). -/
def bitMhl : Fin 8 → Instr
  | 0 => .bit_0_mhl
  | 1 => .bit_1_mhl
  | 2 => .bit_2_mhl
  | 3 => .bit_3_mhl
  | 4 => .bit_4_mhl
  | 5 => .bit_5_mhl
  | 6 => .bit_6_mhl
  | 7 => .bit_7_mhl

/-- RES b,r8 (R161). -/
def resReg : Fin 8 → Reg8 → Instr
  | 0, .b => .res_0_b
  | 0, .c => .res_0_c
  | 0, .d => .res_0_d
  | 0, .e => .res_0_e
  | 0, .h => .res_0_h
  | 0, .l => .res_0_l
  | 0, .a => .res_0_a
  | 1, .b => .res_1_b
  | 1, .c => .res_1_c
  | 1, .d => .res_1_d
  | 1, .e => .res_1_e
  | 1, .h => .res_1_h
  | 1, .l => .res_1_l
  | 1, .a => .res_1_a
  | 2, .b => .res_2_b
  | 2, .c => .res_2_c
  | 2, .d => .res_2_d
  | 2, .e => .res_2_e
  | 2, .h => .res_2_h
  | 2, .l => .res_2_l
  | 2, .a => .res_2_a
  | 3, .b => .res_3_b
  | 3, .c => .res_3_c
  | 3, .d => .res_3_d
  | 3, .e => .res_3_e
  | 3, .h => .res_3_h
  | 3, .l => .res_3_l
  | 3, .a => .res_3_a
  | 4, .b => .res_4_b
  | 4, .c => .res_4_c
  | 4, .d => .res_4_d
  | 4, .e => .res_4_e
  | 4, .h => .res_4_h
  | 4, .l => .res_4_l
  | 4, .a => .res_4_a
  | 5, .b => .res_5_b
  | 5, .c => .res_5_c
  | 5, .d => .res_5_d
  | 5, .e => .res_5_e
  | 5, .h => .res_5_h
  | 5, .l => .res_5_l
  | 5, .a => .res_5_a
  | 6, .b => .res_6_b
  | 6, .c => .res_6_c
  | 6, .d => .res_6_d
  | 6, .e => .res_6_e
  | 6, .h => .res_6_h
  | 6, .l => .res_6_l
  | 6, .a => .res_6_a
  | 7, .b => .res_7_b
  | 7, .c => .res_7_c
  | 7, .d => .res_7_d
  | 7, .e => .res_7_e
  | 7, .h => .res_7_h
  | 7, .l => .res_7_l
  | 7, .a => .res_7_a

/-- RES b,(HL) (R162). -/
def resMhl : Fin 8 → Instr
  | 0 => .res_0_mhl
  | 1 => .res_1_mhl
  | 2 => .res_2_mhl
  | 3 => .res_3_mhl
  | 4 => .res_4_mhl
  | 5 => .res_5_mhl
  | 6 => .res_6_mhl
  | 7 => .res_7_mhl

/-- SET b,r8 (R163). -/
def setReg : Fin 8 → Reg8 → Instr
  | 0, .b => .set_0_b
  | 0, .c => .set_0_c
  | 0, .d => .set_0_d
  | 0, .e => .set_0_e
  | 0, .h => .set_0_h
  | 0, .l => .set_0_l
  | 0, .a => .set_0_a
  | 1, .b => .set_1_b
  | 1, .c => .set_1_c
  | 1, .d => .set_1_d
  | 1, .e => .set_1_e
  | 1, .h => .set_1_h
  | 1, .l => .set_1_l
  | 1, .a => .set_1_a
  | 2, .b => .set_2_b
  | 2, .c => .set_2_c
  | 2, .d => .set_2_d
  | 2, .e => .set_2_e
  | 2, .h => .set_2_h
  | 2, .l => .set_2_l
  | 2, .a => .set_2_a
  | 3, .b => .set_3_b
  | 3, .c => .set_3_c
  | 3, .d => .set_3_d
  | 3, .e => .set_3_e
  | 3, .h => .set_3_h
  | 3, .l => .set_3_l
  | 3, .a => .set_3_a
  | 4, .b => .set_4_b
  | 4, .c => .set_4_c
  | 4, .d => .set_4_d
  | 4, .e => .set_4_e
  | 4, .h => .set_4_h
  | 4, .l => .set_4_l
  | 4, .a => .set_4_a
  | 5, .b => .set_5_b
  | 5, .c => .set_5_c
  | 5, .d => .set_5_d
  | 5, .e => .set_5_e
  | 5, .h => .set_5_h
  | 5, .l => .set_5_l
  | 5, .a => .set_5_a
  | 6, .b => .set_6_b
  | 6, .c => .set_6_c
  | 6, .d => .set_6_d
  | 6, .e => .set_6_e
  | 6, .h => .set_6_h
  | 6, .l => .set_6_l
  | 6, .a => .set_6_a
  | 7, .b => .set_7_b
  | 7, .c => .set_7_c
  | 7, .d => .set_7_d
  | 7, .e => .set_7_e
  | 7, .h => .set_7_h
  | 7, .l => .set_7_l
  | 7, .a => .set_7_a

/-- SET b,(HL) (R164). -/
def setMhl : Fin 8 → Instr
  | 0 => .set_0_mhl
  | 1 => .set_1_mhl
  | 2 => .set_2_mhl
  | 3 => .set_3_mhl
  | 4 => .set_4_mhl
  | 5 => .set_5_mhl
  | 6 => .set_6_mhl
  | 7 => .set_7_mhl

/-- JP cc,a16 (R167). -/
def jpCond (a16 : Word) : Cond → Instr
  | .nz => .jp_nz_a16 a16
  | .z => .jp_z_a16 a16
  | .nc => .jp_nc_a16 a16
  | .c => .jp_c_a16 a16

/-- CALL cc,a16 (R171). -/
def callCond (a16 : Word) : Cond → Instr
  | .nz => .call_nz_a16 a16
  | .z => .call_z_a16 a16
  | .nc => .call_nc_a16 a16
  | .c => .call_c_a16 a16

/-- JR cc,e8 (R169). -/
def jrCond (e8 : Byte) : Cond → Instr
  | .nz => .jr_nz_e8 e8
  | .z => .jr_z_e8 e8
  | .nc => .jr_nc_e8 e8
  | .c => .jr_c_e8 e8

/-- RET cc (R173). -/
def retCond : Cond → Instr
  | .nz => .ret_nz
  | .z => .ret_z
  | .nc => .ret_nc
  | .c => .ret_c

/-- RST v by bits 5..3 of its opcode (R175). -/
def rstRow : Fin 8 → Instr
  | 0 => .rst_0x00
  | 1 => .rst_0x08
  | 2 => .rst_0x10
  | 3 => .rst_0x18
  | 4 => .rst_0x20
  | 5 => .rst_0x28
  | 6 => .rst_0x30
  | 7 => .rst_0x38

/-- PUSH rr (R182). -/
def pushPair : StackPair → Instr
  | .bc => .push_bc
  | .de => .push_de
  | .hl => .push_hl
  | .af => .push_af

/-- POP rr (R184). -/
def popPair : StackPair → Instr
  | .bc => .pop_bc
  | .de => .pop_de
  | .hl => .pop_hl
  | .af => .pop_af

/-- The eleven unassigned bytes with their rows (R66). -/
def unsupportedRows : List (Byte × Instr) :=
  [(0xD3, .unsupported_d3), (0xDB, .unsupported_db), (0xDD, .unsupported_dd), (0xE3, .unsupported_e3),
   (0xE4, .unsupported_e4), (0xEB, .unsupported_eb), (0xEC, .unsupported_ec), (0xED, .unsupported_ed),
   (0xF4, .unsupported_f4), (0xFC, .unsupported_fc), (0xFD, .unsupported_fd)]

/-! ## The columns of a row -/

/-- The row `i` has this encoding, this length and this cost. -/
def RowIs (i : Instr) (bytes : List Byte) (cycles : Nat) : Prop :=
  encode i = bytes ∧ i.length = bytes.length ∧ ∀ s : State, cost i s = cycles

/-- The conditional row `i` has this encoding and length, and these costs when `cc` holds and when it does not; in
mode `base` it reports the not-taken cost always (R70). -/
def CondRowIs (i : Instr) (bytes : List Byte) (cc : Cond) (taken notTaken : Nat) : Prop :=
  encode i = bytes ∧ i.length = bytes.length ∧
    ∀ s : State, cost i s = if s.params.condCostMode = .actual ∧ s.cond cc = true then taken else notTaken

/-- `P` of the three forms of an ALU operation: the row, the value of its second operand, its encoding, its cost (R94). -/
def ForAluForms (op : AluOp) (P : Instr → (State → Byte) → List Byte → Nat → Prop) : Prop :=
  (∀ r : Reg8, P (aluReg op r) (fun s => s.getReg r) [BitVec.ofNat 8 (0x80 + 8 * op.code + r.code)] 4) ∧
  P (aluMhl op) (fun s => s.memRead s.hl) [BitVec.ofNat 8 (0x86 + 8 * op.code)] 8 ∧
  (∀ n : Byte, P (aluImm n op) (fun _ => n) [BitVec.ofNat 8 (0xC6 + 8 * op.code), n] 8)

/-- `P` of the two kinds of target of a CB rotate or shift: the row, the target, its encoding, its cost (R142). -/
def ForRotTargets (op : RotOp) (P : Instr → Target8 → List Byte → Nat → Prop) : Prop :=
  (∀ r : Reg8, P (rotReg op r) (.reg r) [0xCB, BitVec.ofNat 8 (8 * op.code + r.code)] 8) ∧
  P (rotMhl op) .mhl [0xCB, BitVec.ofNat 8 (8 * op.code + 6)] 16

/-! ## Terms of the statements about the Timer and DAA -/

/-- `k` advances of `c` cycles each: the Timer after them and how many of them answered `irq` (60_exceptions.md R214). -/
def Timer.chunks (c : Nat) : Nat → Timer → Timer × Nat
  | 0, t => (t, 0)
  | k + 1, t =>
    let u := t.advance c
    let r := Timer.chunks c k u.1
    (r.1, r.2 + u.2.toNat)

/-- A packed-BCD byte: both nibbles are decimal digits (41_alu8.md R130). -/
def IsBcd (v : Byte) : Prop := v.toNat / 16 ≤ 9 ∧ v.toNat % 16 ≤ 9

/-- The number a packed-BCD byte stands for. -/
def bcdValue (v : Byte) : Nat := 10 * (v.toNat / 16) + v.toNat % 16

/-! ## What a row writes -/

/-- An entry of the `flags_ZNHC` column: unchanged, forced to 0, forced to 1, computed (10_state.md R34). -/
inductive FlagEffect where
  | keep
  | clear
  | force
  | computed
  deriving DecidableEq, Repr

/-- The four entries of the `flags_ZNHC` column. -/
structure FlagEffects where
  z : FlagEffect
  n : FlagEffect
  h : FlagEffect
  c : FlagEffect
  deriving DecidableEq, Repr

/-- The `flags_ZNHC` column of spec/opcode_table.json. -/
def flagsColumn : Instr → FlagEffects
  | .nop | .ld_bc_n16 _ | .ld_mbc_a | .inc_bc | .ld_b_n8 _ | .ld_ma16_sp _ | .ld_a_mbc | .dec_bc | .ld_c_n8 _ |
    .stop _ | .ld_de_n16 _ | .ld_mde_a | .inc_de | .ld_d_n8 _ | .jr_e8 _ | .ld_a_mde | .dec_de | .ld_e_n8 _ |
    .jr_nz_e8 _ | .ld_hl_n16 _ | .ld_mhli_a | .inc_hl | .ld_h_n8 _ | .jr_z_e8 _ | .ld_a_mhli | .dec_hl |
    .ld_l_n8 _ | .jr_nc_e8 _ | .ld_sp_n16 _ | .ld_mhld_a | .inc_sp | .ld_mhl_n8 _ | .jr_c_e8 _ | .ld_a_mhld |
    .dec_sp | .ld_a_n8 _ | .ld_b_b | .ld_b_c | .ld_b_d | .ld_b_e | .ld_b_h | .ld_b_l | .ld_b_mhl | .ld_b_a |
    .ld_c_b | .ld_c_c | .ld_c_d | .ld_c_e | .ld_c_h | .ld_c_l | .ld_c_mhl | .ld_c_a | .ld_d_b | .ld_d_c |
    .ld_d_d | .ld_d_e | .ld_d_h | .ld_d_l | .ld_d_mhl | .ld_d_a | .ld_e_b | .ld_e_c | .ld_e_d | .ld_e_e |
    .ld_e_h | .ld_e_l | .ld_e_mhl | .ld_e_a | .ld_h_b | .ld_h_c | .ld_h_d | .ld_h_e | .ld_h_h | .ld_h_l |
    .ld_h_mhl | .ld_h_a | .ld_l_b | .ld_l_c | .ld_l_d | .ld_l_e | .ld_l_h | .ld_l_l | .ld_l_mhl | .ld_l_a |
    .ld_mhl_b | .ld_mhl_c | .ld_mhl_d | .ld_mhl_e | .ld_mhl_h | .ld_mhl_l | .halt | .ld_mhl_a | .ld_a_b |
    .ld_a_c | .ld_a_d | .ld_a_e | .ld_a_h | .ld_a_l | .ld_a_mhl | .ld_a_a | .ret_nz | .pop_bc | .jp_nz_a16 _ |
    .jp_a16 _ | .call_nz_a16 _ | .push_bc | .rst_0x00 | .ret_z | .ret | .jp_z_a16 _ | .prefix_cb _ |
    .call_z_a16 _ | .call_a16 _ | .rst_0x08 | .ret_nc | .pop_de | .jp_nc_a16 _ | .unsupported_d3 |
    .call_nc_a16 _ | .push_de | .rst_0x10 | .ret_c | .reti | .jp_c_a16 _ | .unsupported_db | .call_c_a16 _ |
    .unsupported_dd | .rst_0x18 | .ldh_ma8_a _ | .pop_hl | .ld_mc_a | .unsupported_e3 | .unsupported_e4 |
    .push_hl | .rst_0x20 | .jp_hl | .ld_ma16_a _ | .unsupported_eb | .unsupported_ec | .unsupported_ed |
    .rst_0x28 | .ldh_a_ma8 _ | .ld_a_mc | .di | .unsupported_f4 | .push_af | .rst_0x30 | .ld_sp_hl |
    .ld_a_ma16 _ | .ei | .unsupported_fc | .unsupported_fd | .rst_0x38 | .res_0_b | .res_0_c | .res_0_d |
    .res_0_e | .res_0_h | .res_0_l | .res_0_mhl | .res_0_a | .res_1_b | .res_1_c | .res_1_d | .res_1_e |
    .res_1_h | .res_1_l | .res_1_mhl | .res_1_a | .res_2_b | .res_2_c | .res_2_d | .res_2_e | .res_2_h |
    .res_2_l | .res_2_mhl | .res_2_a | .res_3_b | .res_3_c | .res_3_d | .res_3_e | .res_3_h | .res_3_l |
    .res_3_mhl | .res_3_a | .res_4_b | .res_4_c | .res_4_d | .res_4_e | .res_4_h | .res_4_l | .res_4_mhl |
    .res_4_a | .res_5_b | .res_5_c | .res_5_d | .res_5_e | .res_5_h | .res_5_l | .res_5_mhl | .res_5_a |
    .res_6_b | .res_6_c | .res_6_d | .res_6_e | .res_6_h | .res_6_l | .res_6_mhl | .res_6_a | .res_7_b |
    .res_7_c | .res_7_d | .res_7_e | .res_7_h | .res_7_l | .res_7_mhl | .res_7_a | .set_0_b | .set_0_c |
    .set_0_d | .set_0_e | .set_0_h | .set_0_l | .set_0_mhl | .set_0_a | .set_1_b | .set_1_c | .set_1_d |
    .set_1_e | .set_1_h | .set_1_l | .set_1_mhl | .set_1_a | .set_2_b | .set_2_c | .set_2_d | .set_2_e |
    .set_2_h | .set_2_l | .set_2_mhl | .set_2_a | .set_3_b | .set_3_c | .set_3_d | .set_3_e | .set_3_h |
    .set_3_l | .set_3_mhl | .set_3_a | .set_4_b | .set_4_c | .set_4_d | .set_4_e | .set_4_h | .set_4_l |
    .set_4_mhl | .set_4_a | .set_5_b | .set_5_c | .set_5_d | .set_5_e | .set_5_h | .set_5_l | .set_5_mhl |
    .set_5_a | .set_6_b | .set_6_c | .set_6_d | .set_6_e | .set_6_h | .set_6_l | .set_6_mhl | .set_6_a |
    .set_7_b | .set_7_c | .set_7_d | .set_7_e | .set_7_h | .set_7_l | .set_7_mhl | .set_7_a => ⟨.keep, .keep, .keep, .keep⟩
  | .inc_b | .inc_c | .inc_d | .inc_e | .inc_h | .inc_l | .inc_mhl | .inc_a => ⟨.computed, .clear, .computed, .keep⟩
  | .dec_b | .dec_c | .dec_d | .dec_e | .dec_h | .dec_l | .dec_mhl | .dec_a => ⟨.computed, .force, .computed, .keep⟩
  | .rlca | .rrca | .rla | .rra => ⟨.clear, .clear, .clear, .computed⟩
  | .add_hl_bc | .add_hl_de | .add_hl_hl | .add_hl_sp => ⟨.keep, .clear, .computed, .computed⟩
  | .daa => ⟨.computed, .keep, .clear, .computed⟩
  | .cpl => ⟨.keep, .force, .force, .keep⟩
  | .scf => ⟨.keep, .clear, .clear, .force⟩
  | .ccf => ⟨.keep, .clear, .clear, .computed⟩
  | .add_a_b | .add_a_c | .add_a_d | .add_a_e | .add_a_h | .add_a_l | .add_a_mhl | .add_a_a | .adc_a_b |
    .adc_a_c | .adc_a_d | .adc_a_e | .adc_a_h | .adc_a_l | .adc_a_mhl | .adc_a_a | .add_a_n8 _ | .adc_a_n8 _ => ⟨.computed, .clear, .computed, .computed⟩
  | .sub_b | .sub_c | .sub_d | .sub_e | .sub_h | .sub_l | .sub_mhl | .sub_a | .sbc_a_b | .sbc_a_c | .sbc_a_d |
    .sbc_a_e | .sbc_a_h | .sbc_a_l | .sbc_a_mhl | .sbc_a_a | .cp_b | .cp_c | .cp_d | .cp_e | .cp_h | .cp_l |
    .cp_mhl | .cp_a | .sub_n8 _ | .sbc_a_n8 _ | .cp_n8 _ => ⟨.computed, .force, .computed, .computed⟩
  | .and_b | .and_c | .and_d | .and_e | .and_h | .and_l | .and_mhl | .and_a | .and_n8 _ => ⟨.computed, .clear, .force, .clear⟩
  | .xor_b | .xor_c | .xor_d | .xor_e | .xor_h | .xor_l | .xor_mhl | .xor_a | .or_b | .or_c | .or_d | .or_e |
    .or_h | .or_l | .or_mhl | .or_a | .xor_n8 _ | .or_n8 _ | .swap_b | .swap_c | .swap_d | .swap_e | .swap_h |
    .swap_l | .swap_mhl | .swap_a => ⟨.computed, .clear, .clear, .clear⟩
  | .add_sp_e8 _ | .ld_hl_sp_e8 _ => ⟨.clear, .clear, .computed, .computed⟩
  | .pop_af => ⟨.computed, .computed, .computed, .computed⟩
  | .rlc_b | .rlc_c | .rlc_d | .rlc_e | .rlc_h | .rlc_l | .rlc_mhl | .rlc_a | .rrc_b | .rrc_c | .rrc_d | .rrc_e |
    .rrc_h | .rrc_l | .rrc_mhl | .rrc_a | .rl_b | .rl_c | .rl_d | .rl_e | .rl_h | .rl_l | .rl_mhl | .rl_a |
    .rr_b | .rr_c | .rr_d | .rr_e | .rr_h | .rr_l | .rr_mhl | .rr_a | .sla_b | .sla_c | .sla_d | .sla_e | .sla_h |
    .sla_l | .sla_mhl | .sla_a | .sra_b | .sra_c | .sra_d | .sra_e | .sra_h | .sra_l | .sra_mhl | .sra_a |
    .srl_b | .srl_c | .srl_d | .srl_e | .srl_h | .srl_l | .srl_mhl | .srl_a => ⟨.computed, .clear, .clear, .computed⟩
  | .bit_0_b | .bit_0_c | .bit_0_d | .bit_0_e | .bit_0_h | .bit_0_l | .bit_0_mhl | .bit_0_a | .bit_1_b |
    .bit_1_c | .bit_1_d | .bit_1_e | .bit_1_h | .bit_1_l | .bit_1_mhl | .bit_1_a | .bit_2_b | .bit_2_c |
    .bit_2_d | .bit_2_e | .bit_2_h | .bit_2_l | .bit_2_mhl | .bit_2_a | .bit_3_b | .bit_3_c | .bit_3_d |
    .bit_3_e | .bit_3_h | .bit_3_l | .bit_3_mhl | .bit_3_a | .bit_4_b | .bit_4_c | .bit_4_d | .bit_4_e |
    .bit_4_h | .bit_4_l | .bit_4_mhl | .bit_4_a | .bit_5_b | .bit_5_c | .bit_5_d | .bit_5_e | .bit_5_h |
    .bit_5_l | .bit_5_mhl | .bit_5_a | .bit_6_b | .bit_6_c | .bit_6_d | .bit_6_e | .bit_6_h | .bit_6_l |
    .bit_6_mhl | .bit_6_a | .bit_7_b | .bit_7_c | .bit_7_d | .bit_7_e | .bit_7_h | .bit_7_l | .bit_7_mhl |
    .bit_7_a => ⟨.computed, .clear, .force, .keep⟩

/-- What an entry says of a flag's value before and after. -/
def FlagEffect.Allows : FlagEffect → Bool → Bool → Prop
  | .keep, old, new => new = old
  | .clear, _, new => new = false
  | .force, _, new => new = true
  | .computed, _, _ => True

/-- The single registers a row writes (10_state.md R33). -/
def regsWritten : Instr → List Reg8
  | .nop | .ld_mbc_a | .ld_ma16_sp _ | .stop _ | .ld_mde_a | .jr_e8 _ | .jr_nz_e8 _ | .jr_z_e8 _ | .jr_nc_e8 _ |
    .ld_sp_n16 _ | .inc_sp | .inc_mhl | .dec_mhl | .ld_mhl_n8 _ | .scf | .jr_c_e8 _ | .dec_sp | .ccf | .ld_mhl_b |
    .ld_mhl_c | .ld_mhl_d | .ld_mhl_e | .ld_mhl_h | .ld_mhl_l | .halt | .ld_mhl_a | .cp_b | .cp_c | .cp_d |
    .cp_e | .cp_h | .cp_l | .cp_mhl | .cp_a | .ret_nz | .jp_nz_a16 _ | .jp_a16 _ | .call_nz_a16 _ | .push_bc |
    .rst_0x00 | .ret_z | .ret | .jp_z_a16 _ | .prefix_cb _ | .call_z_a16 _ | .call_a16 _ | .rst_0x08 | .ret_nc |
    .jp_nc_a16 _ | .unsupported_d3 | .call_nc_a16 _ | .push_de | .rst_0x10 | .ret_c | .reti | .jp_c_a16 _ |
    .unsupported_db | .call_c_a16 _ | .unsupported_dd | .rst_0x18 | .ldh_ma8_a _ | .ld_mc_a | .unsupported_e3 |
    .unsupported_e4 | .push_hl | .rst_0x20 | .add_sp_e8 _ | .jp_hl | .ld_ma16_a _ | .unsupported_eb |
    .unsupported_ec | .unsupported_ed | .rst_0x28 | .di | .unsupported_f4 | .push_af | .rst_0x30 | .ld_sp_hl |
    .ei | .unsupported_fc | .unsupported_fd | .cp_n8 _ | .rst_0x38 | .rlc_mhl | .rrc_mhl | .rl_mhl | .rr_mhl |
    .sla_mhl | .sra_mhl | .swap_mhl | .srl_mhl | .bit_0_b | .bit_0_c | .bit_0_d | .bit_0_e | .bit_0_h | .bit_0_l |
    .bit_0_mhl | .bit_0_a | .bit_1_b | .bit_1_c | .bit_1_d | .bit_1_e | .bit_1_h | .bit_1_l | .bit_1_mhl |
    .bit_1_a | .bit_2_b | .bit_2_c | .bit_2_d | .bit_2_e | .bit_2_h | .bit_2_l | .bit_2_mhl | .bit_2_a |
    .bit_3_b | .bit_3_c | .bit_3_d | .bit_3_e | .bit_3_h | .bit_3_l | .bit_3_mhl | .bit_3_a | .bit_4_b |
    .bit_4_c | .bit_4_d | .bit_4_e | .bit_4_h | .bit_4_l | .bit_4_mhl | .bit_4_a | .bit_5_b | .bit_5_c |
    .bit_5_d | .bit_5_e | .bit_5_h | .bit_5_l | .bit_5_mhl | .bit_5_a | .bit_6_b | .bit_6_c | .bit_6_d |
    .bit_6_e | .bit_6_h | .bit_6_l | .bit_6_mhl | .bit_6_a | .bit_7_b | .bit_7_c | .bit_7_d | .bit_7_e |
    .bit_7_h | .bit_7_l | .bit_7_mhl | .bit_7_a | .res_0_mhl | .res_1_mhl | .res_2_mhl | .res_3_mhl | .res_4_mhl |
    .res_5_mhl | .res_6_mhl | .res_7_mhl | .set_0_mhl | .set_1_mhl | .set_2_mhl | .set_3_mhl | .set_4_mhl |
    .set_5_mhl | .set_6_mhl | .set_7_mhl => []
  | .ld_bc_n16 _ | .inc_bc | .dec_bc | .pop_bc => [.b, .c]
  | .inc_b | .dec_b | .ld_b_n8 _ | .ld_b_b | .ld_b_c | .ld_b_d | .ld_b_e | .ld_b_h | .ld_b_l | .ld_b_mhl |
    .ld_b_a | .rlc_b | .rrc_b | .rl_b | .rr_b | .sla_b | .sra_b | .swap_b | .srl_b | .res_0_b | .res_1_b |
    .res_2_b | .res_3_b | .res_4_b | .res_5_b | .res_6_b | .res_7_b | .set_0_b | .set_1_b | .set_2_b | .set_3_b |
    .set_4_b | .set_5_b | .set_6_b | .set_7_b => [.b]
  | .rlca | .ld_a_mbc | .rrca | .rla | .ld_a_mde | .rra | .daa | .cpl | .inc_a | .dec_a | .ld_a_n8 _ | .ld_a_b |
    .ld_a_c | .ld_a_d | .ld_a_e | .ld_a_h | .ld_a_l | .ld_a_mhl | .ld_a_a | .add_a_b | .add_a_c | .add_a_d |
    .add_a_e | .add_a_h | .add_a_l | .add_a_mhl | .add_a_a | .adc_a_b | .adc_a_c | .adc_a_d | .adc_a_e |
    .adc_a_h | .adc_a_l | .adc_a_mhl | .adc_a_a | .sub_b | .sub_c | .sub_d | .sub_e | .sub_h | .sub_l | .sub_mhl |
    .sub_a | .sbc_a_b | .sbc_a_c | .sbc_a_d | .sbc_a_e | .sbc_a_h | .sbc_a_l | .sbc_a_mhl | .sbc_a_a | .and_b |
    .and_c | .and_d | .and_e | .and_h | .and_l | .and_mhl | .and_a | .xor_b | .xor_c | .xor_d | .xor_e | .xor_h |
    .xor_l | .xor_mhl | .xor_a | .or_b | .or_c | .or_d | .or_e | .or_h | .or_l | .or_mhl | .or_a | .add_a_n8 _ |
    .adc_a_n8 _ | .sub_n8 _ | .sbc_a_n8 _ | .and_n8 _ | .xor_n8 _ | .ldh_a_ma8 _ | .pop_af | .ld_a_mc | .or_n8 _ |
    .ld_a_ma16 _ | .rlc_a | .rrc_a | .rl_a | .rr_a | .sla_a | .sra_a | .swap_a | .srl_a | .res_0_a | .res_1_a |
    .res_2_a | .res_3_a | .res_4_a | .res_5_a | .res_6_a | .res_7_a | .set_0_a | .set_1_a | .set_2_a | .set_3_a |
    .set_4_a | .set_5_a | .set_6_a | .set_7_a => [.a]
  | .add_hl_bc | .add_hl_de | .ld_hl_n16 _ | .ld_mhli_a | .inc_hl | .add_hl_hl | .dec_hl | .ld_mhld_a |
    .add_hl_sp | .pop_hl | .ld_hl_sp_e8 _ => [.h, .l]
  | .inc_c | .dec_c | .ld_c_n8 _ | .ld_c_b | .ld_c_c | .ld_c_d | .ld_c_e | .ld_c_h | .ld_c_l | .ld_c_mhl |
    .ld_c_a | .rlc_c | .rrc_c | .rl_c | .rr_c | .sla_c | .sra_c | .swap_c | .srl_c | .res_0_c | .res_1_c |
    .res_2_c | .res_3_c | .res_4_c | .res_5_c | .res_6_c | .res_7_c | .set_0_c | .set_1_c | .set_2_c | .set_3_c |
    .set_4_c | .set_5_c | .set_6_c | .set_7_c => [.c]
  | .ld_de_n16 _ | .inc_de | .dec_de | .pop_de => [.d, .e]
  | .inc_d | .dec_d | .ld_d_n8 _ | .ld_d_b | .ld_d_c | .ld_d_d | .ld_d_e | .ld_d_h | .ld_d_l | .ld_d_mhl |
    .ld_d_a | .rlc_d | .rrc_d | .rl_d | .rr_d | .sla_d | .sra_d | .swap_d | .srl_d | .res_0_d | .res_1_d |
    .res_2_d | .res_3_d | .res_4_d | .res_5_d | .res_6_d | .res_7_d | .set_0_d | .set_1_d | .set_2_d | .set_3_d |
    .set_4_d | .set_5_d | .set_6_d | .set_7_d => [.d]
  | .inc_e | .dec_e | .ld_e_n8 _ | .ld_e_b | .ld_e_c | .ld_e_d | .ld_e_e | .ld_e_h | .ld_e_l | .ld_e_mhl |
    .ld_e_a | .rlc_e | .rrc_e | .rl_e | .rr_e | .sla_e | .sra_e | .swap_e | .srl_e | .res_0_e | .res_1_e |
    .res_2_e | .res_3_e | .res_4_e | .res_5_e | .res_6_e | .res_7_e | .set_0_e | .set_1_e | .set_2_e | .set_3_e |
    .set_4_e | .set_5_e | .set_6_e | .set_7_e => [.e]
  | .inc_h | .dec_h | .ld_h_n8 _ | .ld_h_b | .ld_h_c | .ld_h_d | .ld_h_e | .ld_h_h | .ld_h_l | .ld_h_mhl |
    .ld_h_a | .rlc_h | .rrc_h | .rl_h | .rr_h | .sla_h | .sra_h | .swap_h | .srl_h | .res_0_h | .res_1_h |
    .res_2_h | .res_3_h | .res_4_h | .res_5_h | .res_6_h | .res_7_h | .set_0_h | .set_1_h | .set_2_h | .set_3_h |
    .set_4_h | .set_5_h | .set_6_h | .set_7_h => [.h]
  | .ld_a_mhli | .ld_a_mhld => [.a, .h, .l]
  | .inc_l | .dec_l | .ld_l_n8 _ | .ld_l_b | .ld_l_c | .ld_l_d | .ld_l_e | .ld_l_h | .ld_l_l | .ld_l_mhl |
    .ld_l_a | .rlc_l | .rrc_l | .rl_l | .rr_l | .sla_l | .sra_l | .swap_l | .srl_l | .res_0_l | .res_1_l |
    .res_2_l | .res_3_l | .res_4_l | .res_5_l | .res_6_l | .res_7_l | .set_0_l | .set_1_l | .set_2_l | .set_3_l |
    .set_4_l | .set_5_l | .set_6_l | .set_7_l => [.l]

/-- The addresses a row stores to, in a state whose pc is past the instruction (20_memory.md R44): the same
expressions its meaning stores through. -/
def storedAddrs : Instr → State → List Word
  | .ld_mbc_a, s => [s.bc]
  | .ld_ma16_sp a16, _ => [a16, a16 + 1]
  | .ld_mde_a, s => [s.de]
  | .ld_mhli_a, s | .ld_mhld_a, s | .inc_mhl, s | .dec_mhl, s | .ld_mhl_n8 _, s | .ld_mhl_b, s | .ld_mhl_c, s |
    .ld_mhl_d, s | .ld_mhl_e, s | .ld_mhl_h, s | .ld_mhl_l, s | .ld_mhl_a, s | .rlc_mhl, s | .rrc_mhl, s |
    .rl_mhl, s | .rr_mhl, s | .sla_mhl, s | .sra_mhl, s | .swap_mhl, s | .srl_mhl, s | .res_0_mhl, s |
    .res_1_mhl, s | .res_2_mhl, s | .res_3_mhl, s | .res_4_mhl, s | .res_5_mhl, s | .res_6_mhl, s |
    .res_7_mhl, s | .set_0_mhl, s | .set_1_mhl, s | .set_2_mhl, s | .set_3_mhl, s | .set_4_mhl, s |
    .set_5_mhl, s | .set_6_mhl, s | .set_7_mhl, s => [s.hl]
  | .call_nz_a16 _, s => if s.cond .nz then [s.sp - 1, s.sp - 2] else []
  | .push_bc, s | .rst_0x00, s | .call_a16 _, s | .rst_0x08, s | .push_de, s | .rst_0x10, s | .rst_0x18, s |
    .push_hl, s | .rst_0x20, s | .rst_0x28, s | .push_af, s | .rst_0x30, s | .rst_0x38, s => [s.sp - 1, s.sp - 2]
  | .call_z_a16 _, s => if s.cond .z then [s.sp - 1, s.sp - 2] else []
  | .call_nc_a16 _, s => if s.cond .nc then [s.sp - 1, s.sp - 2] else []
  | .call_c_a16 _, s => if s.cond .c then [s.sp - 1, s.sp - 2] else []
  | .ldh_ma8_a a8, _ => [highPage a8]
  | .ld_mc_a, s => [highPage s.regs.c]
  | .ld_ma16_a a16, _ => [a16]
  | _, _ => []

/-- The rows that write SP (10_state.md R20). -/
def writesSp : Instr → Bool
  | .ld_sp_n16 _ | .inc_sp | .dec_sp | .ret_nz | .pop_bc | .call_nz_a16 _ | .push_bc | .rst_0x00 | .ret_z | .ret |
    .call_z_a16 _ | .call_a16 _ | .rst_0x08 | .ret_nc | .pop_de | .call_nc_a16 _ | .push_de | .rst_0x10 | .ret_c |
    .reti | .call_c_a16 _ | .rst_0x18 | .pop_hl | .push_hl | .rst_0x20 | .add_sp_e8 _ | .rst_0x28 | .pop_af |
    .push_af | .rst_0x30 | .rst_0x38 | .ld_sp_hl => true
  | _ => false

/-- The control-transfer rows, which write pc (10_state.md R21). -/
def writesPc : Instr → Bool
  | .jr_e8 _ | .jr_nz_e8 _ | .jr_z_e8 _ | .jr_nc_e8 _ | .jr_c_e8 _ | .ret_nz | .jp_nz_a16 _ | .jp_a16 _ |
    .call_nz_a16 _ | .rst_0x00 | .ret_z | .ret | .jp_z_a16 _ | .call_z_a16 _ | .call_a16 _ | .rst_0x08 | .ret_nc |
    .jp_nc_a16 _ | .call_nc_a16 _ | .rst_0x10 | .ret_c | .reti | .jp_c_a16 _ | .call_c_a16 _ | .rst_0x18 |
    .rst_0x20 | .jp_hl | .rst_0x28 | .rst_0x30 | .rst_0x38 => true
  | _ => false

end Sys2Proof.Machine
end

