-- ==== Sys2Proof/Safety.lean ====
section
/-! DEFINITION. What a legal state and a safe run are, in the terms the statements use. -/

namespace Sys2Proof.Machine

/-- The invariant of CORE: memory in its canonical form (log entry 4), F[3:0] zero (spec/10_state.md R17), and the
bounds the spec gives the two cycle counters (R24). -/
structure State.Inv (s : State) : Prop where
  memCanonical : s.mem.wf = true
  flagNibble : s.regs.f &&& 0x0F = 0
  divBound : s.timer.divCounter < 255
  timaBound : s.timer.timaCounter < 1024

/-- A run of `k` steps raises no error (70_reset_and_hazards.md R234: a run ends at the first step that returns Err). -/
def SafeFor (k : Nat) (s : State) : Prop := ∃ t, Sys2Proof.core.run k s = .next t

end Sys2Proof.Machine
end

