-- ==== Sys2Proof/Certificates/Slice0/Obligations.lean ====
section
/-! DEFINITION. The statements for the provers. A body runs at a state whose pc is already past the instruction
(spec/30_encoding.md R56), so `exec i s` is the effect of the pseudocode of the row's rule. -/

open Sys2Proof Sys2Proof.Machine

/-! ## Construction and the invariant -/

/-- R36: construction leaves the whole array zero and the Timer zeroed, whatever the parameters. -/
def Obligations.ConstructionZeroesMemoryAndTimer : Prop :=
  ∀ (p : Params) (pc0 : Word) (r : Regs),
    (∀ a : Word, (State.construct p pc0 r).mem.read a.toNat = 0x00 ∧ (State.construct p pc0 r).memRead a = 0x00) ∧
    (State.construct p pc0 r).timer = { div := 0, divCounter := 0, tima := 0, timaCounter := 0, tma := 0, tac := 0 }

/-- 10_state.md section 9 (the spec's decisions D1-D4): the constructed engine, for every value of the parameters
`reset_pc` and `reset_regs`. The values `State.reset` takes for the two are the model's (log entries 2, 3). -/
def Obligations.ConstructedEngine : Prop :=
  ∀ (p : Params) (pc0 : Word) (r : Regs),
    let s := State.construct p pc0 r
    s.pc = pc0 ∧ s.sp = 0xFFFE ∧ s.regs = { r with f := r.f &&& 0xF0 } ∧ s.ime = false ∧ s.imeScheduled = false ∧
    s.halted = false ∧ s.ifReg = 0x00 ∧ s.ieReg = 0x00 ∧ s.params = p

/-- Every constructed state, `State.reset` with it, meets the invariant. -/
def Obligations.ConstructedStatesMeetInv : Prop :=
  State.reset.Inv ∧ ∀ (p : Params) (pc0 : Word) (r : Regs), (State.construct p pc0 r).Inv

/-- Every step keeps the invariant (canonical memory, F[3:0] zero, the counter bounds of 10_state.md R17 and R24)
and the parameters. -/
def Obligations.StepKeepsInv : Prop :=
  ∀ s t : State, s.Inv → step s = .next t → t.Inv ∧ t.params = s.params

/-! ## Memory -/

/-- The routing of 20_memory.md section 2, and what a read after a write gives (decision D20 on `div_counter`). -/
def Obligations.ByteAccessRouting : Prop :=
  (∀ s : State, s.memRead 0xFF04 = s.timer.div ∧ s.memRead 0xFF05 = s.timer.tima ∧
    s.memRead 0xFF06 = s.timer.tma ∧ s.memRead 0xFF07 = s.timer.tac) ∧
  (∀ (s : State) (v : Byte),
    s.memWrite 0xFF04 v = { s with timer := { s.timer with div := 0, divCounter := 0 } } ∧
    s.memWrite 0xFF05 v = { s with timer := { s.timer with tima := v } } ∧
    s.memWrite 0xFF06 v = { s with timer := { s.timer with tma := v } } ∧
    s.memWrite 0xFF07 v = { s with timer := { s.timer with tac := v } }) ∧
  (∀ (s : State) (a : Word) (v : Byte), (a < 0xFF04 ∨ 0xFF07 < a) →
    s.memRead a = s.mem.read a.toNat ∧ s.memWrite a v = { s with mem := s.mem.write a.toNat v }) ∧
  (∀ (s : State) (a b : Word) (v : Byte), s.mem.wf = true →
    (s.memWrite a v).memRead b = if b = a then (if a = 0xFF04 then 0x00 else v) else s.memRead b)

/-- The canonical form (log entry 4): memories that read alike are equal, and writing a byte twice is writing it
once (20_memory.md section 5). -/
def Obligations.CanonicalMemoriesAgree : Prop :=
  (∀ m n : Memory, m.wf = true → n.wf = true → (∀ a : Word, m.read a.toNat = n.read a.toNat) → m = n) ∧
  (∀ (s : State) (a : Word) (v : Byte), s.mem.wf = true → (s.memWrite a v).memWrite a v = s.memWrite a v)

/-! ## The Register File -/

/-- R16: the four views, high byte first; AF masks the low nibble of F on a write; a write changes the two registers
of its pair and nothing else. -/
def Obligations.RegisterPairViews : Prop :=
  (∀ s : State, s.bc.toNat = s.regs.b.toNat * 256 + s.regs.c.toNat ∧ s.de.toNat = s.regs.d.toNat * 256 + s.regs.e.toNat ∧
    s.hl.toNat = s.regs.h.toNat * 256 + s.regs.l.toNat ∧ s.af.toNat = s.regs.a.toNat * 256 + s.regs.f.toNat) ∧
  (∀ (s : State) (v : Word), (s.setBc v).bc = v ∧ (s.setDe v).de = v ∧ (s.setHl v).hl = v ∧ (s.setAf v).af = v &&& 0xFFF0) ∧
  (∀ (s : State) (v : Word),
    s.setBc v = { s with regs := { s.regs with b := v.extractLsb' 8 8, c := v.extractLsb' 0 8 } } ∧
    s.setDe v = { s with regs := { s.regs with d := v.extractLsb' 8 8, e := v.extractLsb' 0 8 } } ∧
    s.setHl v = { s with regs := { s.regs with h := v.extractLsb' 8 8, l := v.extractLsb' 0 8 } } ∧
    s.setAf v = { s with regs := { s.regs with a := v.extractLsb' 8 8, f := v.extractLsb' 0 8 &&& 0xF0 } })

/-- R18 with the flag bits of R17: setting the four flags reads back, in bits 7..4, and leaves F[3:0] and every other
register; setting one flag leaves the other three; the carry toggle; the two precomputation helpers. -/
def Obligations.FlagSetters : Prop :=
  (∀ s : State, s.flags = { z := s.regs.f.getLsbD 7, n := s.regs.f.getLsbD 6, h := s.regs.f.getLsbD 5, c := s.regs.f.getLsbD 4 }) ∧
  (∀ (s : State) (fl : Flags), (s.setFlags fl).flags = fl ∧ (s.setFlags fl).regs.f &&& 0x0F = s.regs.f &&& 0x0F ∧
    s.setFlags fl = { s with regs := { s.regs with f := (s.setFlags fl).regs.f } }) ∧
  (∀ (s : State) (b : Bool), (s.setFlags { s.flags with z := b }).flags = { s.flags with z := b } ∧
    (s.setFlags { s.flags with n := b }).flags = { s.flags with n := b } ∧
    (s.setFlags { s.flags with h := b }).flags = { s.flags with h := b } ∧
    (s.setFlags { s.flags with c := b }).flags = { s.flags with c := b } ∧
    (s.setFlags { s.flags with c := !s.flagC }).flagC = !s.flagC) ∧
  (∀ a b : Byte, halfAdd a b = decide (a.toNat % 16 + b.toNat % 16 > 15) ∧ halfSub a b = decide (a.toNat % 16 < b.toNat % 16))

/-- R11: the two helpers, in both forms the rule gives half_add, and their use on the pre-operation operands. -/
def Obligations.HalfCarryHelpers : Prop :=
  (∀ a b : Byte, halfAdd a b = decide ((((a &&& 0x0F) + (b &&& 0x0F)) &&& 0x10) ≠ 0) ∧
    halfAdd a b = decide (a.toNat % 16 + b.toNat % 16 > 15) ∧ halfSub a b = decide (a.toNat % 16 < b.toNat % 16)) ∧
  (∀ a b : Byte, (add8 a b).2.h = halfAdd a b ∧ (sub8 a b).2.h = halfSub a b)

/-! ## Encoding -/

/-- Decoding the encoding of any well-formed instruction, whatever follows it, gives the instruction back with every
operand. -/
def Obligations.DecodeEncodeRoundTrip : Prop :=
  ∀ (i : Instr) (rest : List Byte), i.wf = true → decode (encode i ++ rest) = .ok (i, rest)

/-- What is decoded is well formed, and its encoding is the bytes consumed: no two words mean the same instruction. -/
def Obligations.DecodedBytesAreTheEncoding : Prop :=
  ∀ (bytes rest : List Byte) (i : Instr), decode bytes = .ok (i, rest) → i.wf = true ∧ bytes = encode i ++ rest

/-- The field reading of 30_encoding.md section 1 selects the rows of the two tables, for every field value. -/
def Obligations.FieldsSelectRows : Prop :=
  (∀ (dst r : Reg8) (n m : Byte),
    decode3 (BitVec.ofNat 8 (0x40 + 8 * dst.code + r.code)) n m = ldRegReg dst r ∧
    decode3 (BitVec.ofNat 8 (0x46 + 8 * dst.code)) n m = ldRegMhl dst ∧
    decode3 (BitVec.ofNat 8 (0x70 + r.code)) n m = ldMhlReg r ∧
    decode3 (BitVec.ofNat 8 (0x04 + 8 * dst.code)) n m = incReg dst ∧
    decode3 (BitVec.ofNat 8 (0x05 + 8 * dst.code)) n m = decReg dst ∧
    decode3 (BitVec.ofNat 8 (0x06 + 8 * dst.code)) n m = ldRegImm n dst) ∧
  (∀ (op : AluOp) (r : Reg8) (n m : Byte),
    decode3 (BitVec.ofNat 8 (0x80 + 8 * op.code + r.code)) n m = aluReg op r ∧
    decode3 (BitVec.ofNat 8 (0x86 + 8 * op.code)) n m = aluMhl op ∧
    decode3 (BitVec.ofNat 8 (0xC6 + 8 * op.code)) n m = aluImm n op) ∧
  (∀ (p : Pair) (lo hi : Byte),
    decode3 (BitVec.ofNat 8 (0x01 + 16 * p.code)) lo hi = ldPairImm (hi ++ lo) p ∧
    decode3 (BitVec.ofNat 8 (0x03 + 16 * p.code)) lo hi = incPair p ∧
    decode3 (BitVec.ofNat 8 (0x0B + 16 * p.code)) lo hi = decPair p ∧
    decode3 (BitVec.ofNat 8 (0x09 + 16 * p.code)) lo hi = addHlPair p) ∧
  (∀ (q : StackPair) (n m : Byte),
    decode3 (BitVec.ofNat 8 (0xC1 + 16 * q.code)) n m = popPair q ∧
    decode3 (BitVec.ofNat 8 (0xC5 + 16 * q.code)) n m = pushPair q) ∧
  (∀ (cc : Cond) (lo hi : Byte),
    decode3 (BitVec.ofNat 8 (0x20 + 8 * cc.code)) lo hi = jrCond lo cc ∧
    decode3 (BitVec.ofNat 8 (0xC0 + 8 * cc.code)) lo hi = retCond cc ∧
    decode3 (BitVec.ofNat 8 (0xC2 + 8 * cc.code)) lo hi = jpCond (hi ++ lo) cc ∧
    decode3 (BitVec.ofNat 8 (0xC4 + 8 * cc.code)) lo hi = callCond (hi ++ lo) cc) ∧
  (∀ (k : Fin 8) (n m : Byte), decode3 (BitVec.ofNat 8 (0xC7 + 8 * k.val)) n m = rstRow k) ∧
  (∀ (op : RotOp) (r : Reg8) (m : Byte),
    decode3 0xCB (BitVec.ofNat 8 (8 * op.code + r.code)) m = rotReg op r ∧
    decode3 0xCB (BitVec.ofNat 8 (8 * op.code + 6)) m = rotMhl op) ∧
  (∀ (b : Fin 8) (r : Reg8) (m : Byte),
    decode3 0xCB (BitVec.ofNat 8 (0x40 + 8 * b.val + r.code)) m = bitReg b r ∧
    decode3 0xCB (BitVec.ofNat 8 (0x46 + 8 * b.val)) m = bitMhl b ∧
    decode3 0xCB (BitVec.ofNat 8 (0x80 + 8 * b.val + r.code)) m = resReg b r ∧
    decode3 0xCB (BitVec.ofNat 8 (0x86 + 8 * b.val)) m = resMhl b ∧
    decode3 0xCB (BitVec.ofNat 8 (0xC0 + 8 * b.val + r.code)) m = setReg b r ∧
    decode3 0xCB (BitVec.ofNat 8 (0xC6 + 8 * b.val)) m = setMhl b)

/-- A few words of each family, bit by bit from the encodings of 30_encoding.md, decode to what they stand for. -/
def Obligations.SampleWordsDecode : Prop :=
  decode [0b01000111] = .ok (.ld_b_a, []) ∧
  decode [0b11101010, 0x34, 0x12] = .ok (.ld_ma16_a 0x1234, []) ∧
  decode [0b10000000] = .ok (.add_a_b, []) ∧
  decode [0b11111000, 0xFE] = .ok (.ld_hl_sp_e8 0xFE, []) ∧
  decode [0b11001011, 0b00110110] = .ok (.swap_mhl, []) ∧
  decode [0b11001011, 0b01111100] = .ok (.bit_7_h, []) ∧
  decode [0b00011000, 0x05] = .ok (.jr_e8 0x05, []) ∧
  decode [0b11110101] = .ok (.push_af, []) ∧
  decode [0b01110110] = .ok (.halt, []) ∧
  decode [0b11010011] = .ok (.unsupported_d3, []) ∧
  decode [0b11001101, 0x34] = .error (.truncated 0xCD)

/-! ## The step -/

/-- 30_encoding.md section 2: a step of a core that is not halted runs the instruction decoded at pc, with pc past
it, then reports its cost and runs the tail (decision D12 on the tail, D18 on the value returned); a raise of the
body is the step's. -/
def Obligations.StepRunsDecodedInstruction : Prop :=
  ∀ (s : State) (i : Instr) (rest : List Byte), s.halted = false →
    decode [s.memRead s.pc, s.memRead (s.pc + 1), s.memRead (s.pc + 2)] = .ok (i, rest) →
    (∀ t : State, exec i { s with pc := s.pc + BitVec.ofNat 16 i.length } = .next t →
      step s = .next ((((t.reportCycles (cost i s)).applyDelayedIme s.imeScheduled).wake).interruptCheck)) ∧
    (∀ e : Fault, exec i { s with pc := s.pc + BitVec.ofNat 16 i.length } = .fault e → step s = .fault e) ∧
    stepValue s = s.memRead s.pc

/-- The model's own `withFetchWord` (log entry 11): the next step runs the table word's instruction, wherever pc is. -/
def Obligations.PlacedWordIsFetched : Prop :=
  ∀ (s : State) (nbits w : Nat), s.mem.wf = true →
    (s.withFetchWord nbits w).halted = false ∧ (s.withFetchWord nbits w).pc = s.pc ∧
    decodeTableWord nbits w = some (s.withFetchWord nbits w).fetch

/-- 47_system.md, the halted step (decision D17): no instruction is read, 4 cycles are reported, no register, SP or pc
changes before the tail, and the step's value is 0x76. -/
def Obligations.HaltedStepWaits : Prop :=
  ∀ s : State, s.halted = true →
    step s = .next ((s.reportCycles 4).stepTail s.imeScheduled) ∧ stepValue s = 0x76 ∧
    (s.reportCycles 4).regs = s.regs ∧ (s.reportCycles 4).sp = s.sp ∧ (s.reportCycles 4).pc = s.pc ∧
    (s.snapshot = 0 → s.ime = false → s.imeScheduled = false → (s.timer.advance 4).2 = false →
      step s = .next { s with timer := (s.timer.advance 4).1 })

/-- 60_exceptions.md section 1: a step raises exactly when the opcode byte is one of the eleven unassigned bytes or
STOP, or is HALT with IME false, nothing scheduled and an enabled request pending; a halted step never raises, and
the model refuses nothing, so every other step completes (decisions D15, D16, D24). -/
def Obligations.StepRaisesExactlyWhen : Prop :=
  (∀ (s : State) (e : Fault), step s = .fault e ↔ s.halted = false ∧
    ((s.memRead s.pc ∈ ([0xD3, 0xDB, 0xDD, 0xE3, 0xE4, 0xEB, 0xEC, 0xED, 0xF4, 0xFC, 0xFD] : List Byte) ∧
        e = .unsupported (s.memRead s.pc)) ∨
      (s.memRead s.pc = 0x10 ∧ e = .unimplemented 0x10) ∨
      (s.memRead s.pc = 0x76 ∧ s.ime = false ∧ s.imeScheduled = false ∧ s.snapshot ≠ 0 ∧ e = .unimplemented 0x76))) ∧
  (∀ (s : State) (r : Refusal), step s ≠ .refused r)

/-- 30_encoding.md section 8: every cost is a multiple of 4 and at most 24; sixteen rows are conditional, and each
reports its taken cost in mode Actual when its condition holds (decision D8). -/
def Obligations.CostsAreBounded : Prop :=
  (∀ (i : Instr) (s : State), cost i s % 4 = 0 ∧ cost i s ≤ 24) ∧
  (∀ (i : Instr), (∃ x, takenColumn i = some x) ↔
    ((∃ e8 cc, i = jrCond e8 cc) ∨ (∃ a16 cc, i = jpCond a16 cc) ∨ (∃ a16 cc, i = callCond a16 cc) ∨ (∃ cc, i = retCond cc)))

/-! ## The Timer -/

/-- 60_exceptions.md section 4 (decisions D19, D37): `advance(c)` on the divider, whatever TAC holds, and on the
counter, with the thresholds of TAC[1:0]. -/
def Obligations.TimerAdvance : Prop :=
  ∀ (c : Nat) (t : Timer),
    (255 ≤ t.divCounter + c → (t.advance c).1.divCounter = 0 ∧ (t.advance c).1.div = t.div + 1) ∧
    (t.divCounter + c < 255 → (t.advance c).1.divCounter = t.divCounter + c ∧ (t.advance c).1.div = t.div) ∧
    (t.tac.getLsbD 2 = false → (t.advance c).1.timaCounter = t.timaCounter ∧ (t.advance c).1.tima = t.tima ∧
      (t.advance c).2 = false) ∧
    (t.tac.getLsbD 2 = true → t.timaCounter + c < threshold t.tac →
      (t.advance c).1.timaCounter = t.timaCounter + c ∧ (t.advance c).1.tima = t.tima ∧ (t.advance c).2 = false) ∧
    (t.tac.getLsbD 2 = true → threshold t.tac ≤ t.timaCounter + c → t.tima = 0xFF →
      (t.advance c).1.timaCounter = 0 ∧ (t.advance c).1.tima = t.tma ∧ (t.advance c).2 = true) ∧
    (t.tac.getLsbD 2 = true → threshold t.tac ≤ t.timaCounter + c → t.tima ≠ 0xFF →
      (t.advance c).1.timaCounter = 0 ∧ (t.advance c).1.tima = t.tima + 1 ∧ (t.advance c).2 = false) ∧
    (t.advance c).1.tma = t.tma ∧ (t.advance c).1.tac = t.tac ∧
    (t.tac.toNat % 4 = 0 → threshold t.tac = 1024) ∧ (t.tac.toNat % 4 = 1 → threshold t.tac = 16) ∧
    (t.tac.toNat % 4 = 2 → threshold t.tac = 64) ∧ (t.tac.toNat % 4 = 3 → threshold t.tac = 256)

/-- 60_exceptions.md section 4 (decision D22 on the bit): `ReportCycles` advances the Timer and, on overflow, ORs bit 2
into IF; nothing else changes. -/
def Obligations.CyclesReported : Prop :=
  ∀ (c : Nat) (s : State),
    ((s.timer.advance c).2 = false → s.reportCycles c = { s with timer := (s.timer.advance c).1 }) ∧
    ((s.timer.advance c).2 = true → s.reportCycles c =
      { s with timer := (s.timer.advance c).1, mem := s.mem.write 0xFF0F (s.mem.read 0xFF0F ||| 0x04) } ∧
      (s.reportCycles c).ifReg = s.ifReg ||| 0x04 ∧ (s.reportCycles c).ieReg = s.ieReg)

/-- 90_conflicts C1, 60_exceptions.md section 4: with 4-cycle chunks DIV increments once every 256 cycles, whatever
TAC, TIMA and TMA hold. -/
def Obligations.DividerPeriod : Prop :=
  ∀ (t : Timer) (k : Nat), t.divCounter = 0 →
    (Timer.chunks 4 k t).1.div = t.div + BitVec.ofNat 8 (k / 64) ∧ (Timer.chunks 4 k t).1.divCounter = 4 * (k % 64)

/-- The source's timer property (95_test_vectors.md 1.9): with TAC = 0x05 and TMA = 0x00, `k` chunks of 16 cycles
step TIMA `k` times and request once per overflow past 0xFF; from 0xFF, 256 chunks request exactly once. -/
def Obligations.CounterOverflowCount : Prop :=
  ∀ (t : Timer) (k : Nat), t.tac = 0x05 → t.timaCounter = 0 → t.tma = 0x00 →
    (Timer.chunks 16 k t).1.tima = t.tima + BitVec.ofNat 8 k ∧ (Timer.chunks 16 k t).2 = (t.tima.toNat + k) / 256 ∧
    (Timer.chunks 16 k t).1.timaCounter = 0

/-! ## Interrupts -/

/-- 60_exceptions.md section 2 (decision D22 on the bits): the snapshot reads the stored bytes; the source taken is
the lowest set bit, and the vectors lie 8 apart from 0x0040. -/
def Obligations.InterruptPriority : Prop :=
  (∀ s : State, s.snapshot = s.memRead 0xFFFF &&& s.memRead 0xFF0F &&& 0x1F) ∧
  (∀ (v : Byte) (i : Source), Source.ofSnapshot v = some i ↔
    (v.getLsbD i.bit = true ∧ ∀ j : Source, j.bit < i.bit → v.getLsbD j.bit = false)) ∧
  (∀ v : Byte, Source.ofSnapshot v = none ↔ v &&& 0x1F = 0) ∧
  (∀ i : Source, i.vector = BitVec.ofNat 16 (0x40 + 8 * i.bit)) ∧
  (∀ i j : Source, i.bit = j.bit → i = j)

/-- 60_exceptions.md section 3 (decisions D9, D10, D11, D27): the check does nothing with IME false, clears the whole
of IF with IME true, and dispatches the first pending source: pc is pushed high byte first, pc becomes the vector,
IME, the schedule and the halt are cleared, `dispatch_cycles` are reported, and no 8-bit register changes. -/
def Obligations.InterruptCheckAndDispatch : Prop :=
  (∀ s : State, s.ime = false → s.interruptCheck = s) ∧
  (∀ s : State, s.ime = true → Source.ofSnapshot s.snapshot = none →
    s.interruptCheck = { s with mem := s.mem.write 0xFF0F 0x00 }) ∧
  (∀ (s : State) (i : Source), s.ime = true → Source.ofSnapshot s.snapshot = some i →
    ∃ u : State,
      u = ((({ s with mem := s.mem.write 0xFF0F 0x00, sp := s.sp - 2 }).memWrite (s.sp - 1) (s.pc.extractLsb' 8 8)).memWrite
        (s.sp - 2) (s.pc.extractLsb' 0 8)) ∧
      s.interruptCheck = ({ u with pc := BitVec.ofNat 16 (0x40 + 8 * i.bit), ime := false, imeScheduled := false, halted := false }).reportCycles
        s.params.dispatchCycles ∧
      s.interruptCheck.regs = s.regs)

/-- 60_exceptions.md section 3 (decision D11): a dispatch with `dispatch_cycles` zero, whose push does not hit IF and
whose counter has not already reached its threshold, discards every request. -/
def Obligations.DispatchDiscardsRequests : Prop :=
  ∀ (s : State) (i : Source), s.Inv → s.ime = true → Source.ofSnapshot s.snapshot = some i → s.params.dispatchCycles = 0 →
    s.timer.timaCounter < threshold s.timer.tac → s.sp - 1 ≠ 0xFF0F → s.sp - 2 ≠ 0xFF0F →
    (∀ a ∈ [s.sp - 1, s.sp - 2], a < 0xFF04 ∨ 0xFF07 < a) →
    s.interruptCheck.ifReg = 0x00 ∧ s.interruptCheck.pc = i.vector ∧ s.interruptCheck.ime = false ∧
    s.interruptCheck.memRead (s.sp - 1) = s.pc.extractLsb' 8 8 ∧ s.interruptCheck.memRead (s.sp - 2) = s.pc.extractLsb' 0 8

/-- 60_exceptions.md sections 2 and 3 (decisions D12, D29): the delayed enable applies only a schedule that was there
at the start of the step and survived it; a halted core wakes when an enabled request is pending, whatever IME is. -/
def Obligations.DelayedEnableAndWakeUp : Prop :=
  (∀ (sched0 : Bool) (s : State), s.applyDelayedIme sched0 =
    if sched0 = true ∧ s.imeScheduled = true then { s with ime := true, imeScheduled := false } else s) ∧
  (∀ s : State, (s.halted = true → s.snapshot ≠ 0 → s.wake = { s with halted := false }) ∧
    (s.halted = false ∨ s.snapshot = 0 → s.wake = s))

/-- The whole-machine rule of 10_state.md section 4 and 60_exceptions.md section 2 (decision D12): IME becomes true in
a step only if the enable was scheduled before the step and no DI ran in it; after a DI step IME is false; an EI
step with nothing scheduled before it leaves IME as it was false. -/
def Obligations.EnableRisesOneStepLate : Prop :=
  ∀ s t : State, step s = .next t →
    (t.ime = true → s.ime = true ∨ (s.imeScheduled = true ∧ t.imeScheduled = false)) ∧
    (s.halted = false → s.memRead s.pc = 0xF3 → t.ime = false ∧ t.imeScheduled = false) ∧
    (s.halted = false → s.memRead s.pc = 0xFB → s.ime = false → s.imeScheduled = false →
      t.ime = false ∧ t.imeScheduled = true)

/-- 60_exceptions.md section 3 (decision D11): a step that ends with IME true ends with IF zero. -/
def Obligations.RequestsClearWhileEnabled : Prop :=
  ∀ s t : State, s.Inv → step s = .next t → t.ime = true → t.ifReg = 0x00

/-! ## Loads and stores -/

/-- R72, R73, R74: the loads of a single register. -/
def Obligations.LoadRegister : Prop :=
  (∀ dst r : Reg8, RowIs (ldRegReg dst r) [BitVec.ofNat 8 (0x40 + 8 * dst.code + r.code)] 4 ∧
    ∀ s : State, exec (ldRegReg dst r) s = .next (s.setReg dst (s.getReg r))) ∧
  (∀ (dst : Reg8) (n : Byte), RowIs (ldRegImm n dst) [BitVec.ofNat 8 (0x06 + 8 * dst.code), n] 8 ∧
    ∀ s : State, exec (ldRegImm n dst) s = .next (s.setReg dst n)) ∧
  (∀ dst : Reg8, RowIs (ldRegMhl dst) [BitVec.ofNat 8 (0x46 + 8 * dst.code)] 8 ∧
    ∀ s : State, exec (ldRegMhl dst) s = .next (s.setReg dst (s.memRead s.hl))) ∧
  (∀ (dst r : Reg8) (v : Byte) (s : State), (s.setReg dst v).getReg r = if r = dst then v else s.getReg r)

/-- R77, R78, R81, R83, R85, R89, R90: the loads of A through pairs, addresses, the high page and a stepped HL. -/
def Obligations.LoadAccumulator : Prop :=
  RowIs .ld_a_mbc [0x0A] 8 ∧ RowIs .ld_a_mde [0x1A] 8 ∧ RowIs .ld_a_mc [0xF2] 8 ∧ RowIs .ld_a_mhli [0x2A] 8 ∧
  RowIs .ld_a_mhld [0x3A] 8 ∧ (∀ a : Word, RowIs (.ld_a_ma16 a) [0xFA, a.extractLsb' 0 8, a.extractLsb' 8 8] 16) ∧
  (∀ n : Byte, RowIs (.ldh_a_ma8 n) [0xF0, n] 12) ∧
  (∀ s : State,
    exec .ld_a_mbc s = .next { s with regs := { s.regs with a := s.memRead s.bc } } ∧
    exec .ld_a_mde s = .next { s with regs := { s.regs with a := s.memRead s.de } } ∧
    exec .ld_a_mc s = .next { s with regs := { s.regs with a := s.memRead (0xFF00 + s.regs.c.setWidth 16) } } ∧
    exec .ld_a_mhli s = .next (({ s with regs := { s.regs with a := s.memRead s.hl } }).setHl (s.hl + 1)) ∧
    exec .ld_a_mhld s = .next (({ s with regs := { s.regs with a := s.memRead s.hl } }).setHl (s.hl - 1))) ∧
  (∀ (a : Word) (s : State), exec (.ld_a_ma16 a) s = .next { s with regs := { s.regs with a := s.memRead a } }) ∧
  (∀ (n : Byte) (s : State), exec (.ldh_a_ma8 n) s =
    .next { s with regs := { s.regs with a := s.memRead (0xFF00 + n.setWidth 16) } })

/-- R75, R76, R79, R80, R82, R84, R86, R87, R88: the byte stores. -/
def Obligations.StoreByte : Prop :=
  (∀ r : Reg8, RowIs (ldMhlReg r) [BitVec.ofNat 8 (0x70 + r.code)] 8 ∧
    ∀ s : State, exec (ldMhlReg r) s = .next (s.memWrite s.hl (s.getReg r))) ∧
  (∀ n : Byte, RowIs (.ld_mhl_n8 n) [0x36, n] 12 ∧ ∀ s : State, exec (.ld_mhl_n8 n) s = .next (s.memWrite s.hl n)) ∧
  RowIs .ld_mbc_a [0x02] 8 ∧ RowIs .ld_mde_a [0x12] 8 ∧ RowIs .ld_mc_a [0xE2] 8 ∧ RowIs .ld_mhli_a [0x22] 8 ∧
  RowIs .ld_mhld_a [0x32] 8 ∧ (∀ a : Word, RowIs (.ld_ma16_a a) [0xEA, a.extractLsb' 0 8, a.extractLsb' 8 8] 16) ∧
  (∀ n : Byte, RowIs (.ldh_ma8_a n) [0xE0, n] 12) ∧
  (∀ s : State,
    exec .ld_mbc_a s = .next (s.memWrite s.bc s.regs.a) ∧
    exec .ld_mde_a s = .next (s.memWrite s.de s.regs.a) ∧
    exec .ld_mc_a s = .next (s.memWrite (0xFF00 + s.regs.c.setWidth 16) s.regs.a) ∧
    exec .ld_mhli_a s = .next ((s.memWrite s.hl s.regs.a).setHl (s.hl + 1)) ∧
    exec .ld_mhld_a s = .next ((s.memWrite s.hl s.regs.a).setHl (s.hl - 1))) ∧
  (∀ (a : Word) (s : State), exec (.ld_ma16_a a) s = .next (s.memWrite a s.regs.a)) ∧
  (∀ (n : Byte) (s : State), exec (.ldh_ma8_a n) s = .next (s.memWrite (0xFF00 + n.setWidth 16) s.regs.a))

/-- R91, R93: LD rr,n16 and LD SP,HL. -/
def Obligations.LoadPairAndStackPointer : Prop :=
  (∀ (p : Pair) (n : Word),
    RowIs (ldPairImm n p) [BitVec.ofNat 8 (0x01 + 16 * p.code), n.extractLsb' 0 8, n.extractLsb' 8 8] 12 ∧
    ∀ s : State, exec (ldPairImm n p) s = .next (s.setPair p n) ∧ (s.setPair p n).getPair p = n) ∧
  RowIs .ld_sp_hl [0xF9] 8 ∧ (∀ s : State, exec .ld_sp_hl s = .next { s with sp := s.hl })

/-- 40_loads.md section 6, LD (a16),SP (decision D5 on the byte order): the low byte of SP at a16, then the high byte
at a16 + 1. -/
def Obligations.StoreStackPointer : Prop :=
  (∀ a : Word, RowIs (.ld_ma16_sp a) [0x08, a.extractLsb' 0 8, a.extractLsb' 8 8] 20) ∧
  (∀ (a : Word) (s : State), exec (.ld_ma16_sp a) s =
    .next ((s.memWrite a (s.sp.extractLsb' 0 8)).memWrite (a + 1) (s.sp.extractLsb' 8 8)))

/-! ## 8-bit arithmetic and logic -/

/-- R95 with R97-R99, R103-R105, R118-R120: ADD, SUB and CP in their three forms, results and flags as numbers. -/
def Obligations.AddSubtractCompare : Prop :=
  ForAluForms .add (fun i v bytes cycles => RowIs i bytes cycles ∧ ∀ s : State,
    exec i s = .next (({ s with regs := { s.regs with a := BitVec.ofNat 8 (s.regs.a.toNat + (v s).toNat) } }).setFlags
      { z := decide ((s.regs.a.toNat + (v s).toNat) % 256 = 0), n := false,
        h := decide (s.regs.a.toNat % 16 + (v s).toNat % 16 > 15), c := decide (s.regs.a.toNat + (v s).toNat > 255) })) ∧
  ForAluForms .sub (fun i v bytes cycles => RowIs i bytes cycles ∧ ∀ s : State,
    exec i s = .next (({ s with regs := { s.regs with a := BitVec.ofNat 8 (256 + s.regs.a.toNat - (v s).toNat) } }).setFlags
      { z := decide (s.regs.a = v s), n := true,
        h := decide (s.regs.a.toNat % 16 < (v s).toNat % 16), c := decide (s.regs.a.toNat < (v s).toNat) })) ∧
  ForAluForms .cp (fun i v bytes cycles => RowIs i bytes cycles ∧ ∀ s : State,
    exec i s = .next (s.setFlags
      { z := decide (s.regs.a = v s), n := true,
        h := decide (s.regs.a.toNat % 16 < (v s).toNat % 16), c := decide (s.regs.a.toNat < (v s).toNat) }))

/-- 41_alu8.md section 1, ADC and SBC in both values of `adc_sbc_mode` (decision D14, operand read once D13): the result is
the same three-operand sum or difference; the flags are those of the last step, or of the three operands; the
two modes agree when the carry in is clear. -/
def Obligations.AddSubtractWithCarry : Prop :=
  ForAluForms .adc (fun i v bytes cycles => RowIs i bytes cycles ∧ ∀ s : State, ∃ fl : Flags,
    exec i s = .next (({ s with regs := { s.regs with a := s.regs.a + v s + (if s.flagC then 1 else 0) } }).setFlags fl) ∧
    fl.n = false ∧ (fl.z = true ↔ (s.regs.a.toNat + (v s).toNat + s.flagC.toNat) % 256 = 0) ∧
    (s.params.adcSbcMode = .hardware ∨ s.flagC = false →
      (fl.h = true ↔ s.regs.a.toNat % 16 + (v s).toNat % 16 + s.flagC.toNat > 15) ∧
      (fl.c = true ↔ s.regs.a.toNat + (v s).toNat + s.flagC.toNat > 255)) ∧
    (s.params.adcSbcMode = .doubleStep → s.flagC = true →
      (fl.h = true ↔ (s.regs.a.toNat + 1) % 16 + (v s).toNat % 16 > 15) ∧
      (fl.c = true ↔ (s.regs.a.toNat + 1) % 256 + (v s).toNat > 255))) ∧
  ForAluForms .sbc (fun i v bytes cycles => RowIs i bytes cycles ∧ ∀ s : State, ∃ fl : Flags,
    exec i s = .next (({ s with regs := { s.regs with a := s.regs.a - v s - (if s.flagC then 1 else 0) } }).setFlags fl) ∧
    fl.n = true ∧ (fl.z = true ↔ (s.regs.a.toNat + 256 - (v s).toNat) % 256 = s.flagC.toNat) ∧
    (s.params.adcSbcMode = .hardware ∨ s.flagC = false →
      (fl.h = true ↔ s.regs.a.toNat % 16 < (v s).toNat % 16 + s.flagC.toNat) ∧
      (fl.c = true ↔ s.regs.a.toNat < (v s).toNat + s.flagC.toNat)) ∧
    (s.params.adcSbcMode = .doubleStep → s.flagC = true →
      (fl.h = true ↔ (s.regs.a.toNat + 255) % 16 < (v s).toNat % 16) ∧
      (fl.c = true ↔ (s.regs.a.toNat + 255) % 256 < (v s).toNat)))

/-- 41_alu8.md section 6, AND, XOR and OR (the spec derives C = 0 and takes H from general knowledge, decision D26). -/
def Obligations.LogicOperations : Prop :=
  ForAluForms .and (fun i v bytes cycles => RowIs i bytes cycles ∧ ∀ s : State,
    exec i s = .next (({ s with regs := { s.regs with a := s.regs.a &&& v s } }).setFlags
      { z := decide (s.regs.a &&& v s = 0), n := false, h := true, c := false })) ∧
  ForAluForms .xor (fun i v bytes cycles => RowIs i bytes cycles ∧ ∀ s : State,
    exec i s = .next (({ s with regs := { s.regs with a := s.regs.a ^^^ v s } }).setFlags
      { z := decide (s.regs.a = v s), n := false, h := false, c := false })) ∧
  ForAluForms .or (fun i v bytes cycles => RowIs i bytes cycles ∧ ∀ s : State,
    exec i s = .next (({ s with regs := { s.regs with a := s.regs.a ||| v s } }).setFlags
      { z := decide (s.regs.a = 0 ∧ v s = 0), n := false, h := false, c := false }))

/-- R121-R124: INC and DEC of a register and of the byte at HL; C is left. -/
def Obligations.IncrementDecrement : Prop :=
  (∀ dst : Reg8, RowIs (incReg dst) [BitVec.ofNat 8 (0x04 + 8 * dst.code)] 4 ∧ ∀ s : State,
    exec (incReg dst) s = .next ((s.setReg dst (s.getReg dst + 1)).setFlags
      { z := decide (s.getReg dst = 0xFF), n := false, h := decide ((s.getReg dst).toNat % 16 = 15), c := s.flagC })) ∧
  (RowIs .inc_mhl [0x34] 12 ∧ ∀ s : State,
    exec .inc_mhl s = .next ((s.memWrite s.hl (s.memRead s.hl + 1)).setFlags
      { z := decide (s.memRead s.hl = 0xFF), n := false, h := decide ((s.memRead s.hl).toNat % 16 = 15), c := s.flagC })) ∧
  (∀ dst : Reg8, RowIs (decReg dst) [BitVec.ofNat 8 (0x05 + 8 * dst.code)] 4 ∧ ∀ s : State,
    exec (decReg dst) s = .next ((s.setReg dst (s.getReg dst - 1)).setFlags
      { z := decide (s.getReg dst = 0x01), n := true, h := decide ((s.getReg dst).toNat % 16 = 0), c := s.flagC })) ∧
  (RowIs .dec_mhl [0x35] 12 ∧ ∀ s : State,
    exec .dec_mhl s = .next ((s.memWrite s.hl (s.memRead s.hl - 1)).setFlags
      { z := decide (s.memRead s.hl = 0x01), n := true, h := decide ((s.memRead s.hl).toNat % 16 = 0), c := s.flagC }))

/-- 41_alu8.md section 9, DAA (R125), its subtraction and its addition case (the spec derives N unchanged). -/
def Obligations.DecimalAdjust : Prop :=
  RowIs .daa [0x27] 4 ∧ ∀ s : State, ∃ t : State, exec .daa s = .next t ∧
    t = ({ s with regs := { s.regs with a := t.regs.a } }).setFlags t.flags ∧
    (s.flagN = true → t.flagC = s.flagC ∧
      t.regs.a = s.regs.a - ((if s.flagC then 0x60 else 0) + (if s.flagH then 0x06 else 0))) ∧
    (s.flagN = false → (t.flagC = true ↔ s.flagC = true ∨ s.regs.a.toNat > 0x99) ∧
      t.regs.a = s.regs.a + ((if s.flagC = true ∨ s.regs.a.toNat > 0x99 then 0x60 else 0) +
        (if s.flagH = true ∨ s.regs.a.toNat % 16 > 9 then 0x06 else 0))) ∧
    (t.flagZ = true ↔ t.regs.a = 0) ∧ t.flagN = s.flagN ∧ t.flagH = false

/-- The source's DAA property (41_alu8.md section 10; the spec marks its range as derived): after ADD A,n8, or ADC A,n8
with C clear, of packed-BCD bytes, DAA leaves the packed-BCD sum modulo 100, C the decimal carry, and H clear. -/
def Obligations.DecimalAdjustCorrectsAddition : Prop :=
  ∀ (s : State) (n : Byte), IsBcd s.regs.a → IsBcd n →
    (∃ t u : State, exec (.add_a_n8 n) s = .next t ∧ exec .daa t = .next u ∧ IsBcd u.regs.a ∧
      bcdValue u.regs.a = (bcdValue s.regs.a + bcdValue n) % 100 ∧
      (u.flagC = true ↔ bcdValue s.regs.a + bcdValue n ≥ 100) ∧ u.flagH = false) ∧
    (s.flagC = false → ∃ t u : State, exec (.adc_a_n8 n) s = .next t ∧ exec .daa t = .next u ∧ IsBcd u.regs.a ∧
      bcdValue u.regs.a = (bcdValue s.regs.a + bcdValue n) % 100 ∧
      (u.flagC = true ↔ bcdValue s.regs.a + bcdValue n ≥ 100) ∧ u.flagH = false)

/-- R126, R127, R128: CPL, SCF, CCF. -/
def Obligations.ComplementAndCarry : Prop :=
  RowIs .cpl [0x2F] 4 ∧ RowIs .scf [0x37] 4 ∧ RowIs .ccf [0x3F] 4 ∧ ∀ s : State,
    exec .cpl s = .next (({ s with regs := { s.regs with a := ~~~s.regs.a } }).setFlags
      { z := s.flagZ, n := true, h := true, c := s.flagC }) ∧
    exec .scf s = .next (s.setFlags { z := s.flagZ, n := false, h := false, c := true }) ∧
    exec .ccf s = .next (s.setFlags { z := s.flagZ, n := false, h := false, c := !s.flagC })

/-! ## 16-bit arithmetic -/

/-- R131, R132, R133: INC rr and DEC rr write no flag; ADD HL,rr leaves Z, with carries out of bits 11 and 15. -/
def Obligations.PairArithmetic : Prop :=
  (∀ p : Pair, RowIs (incPair p) [BitVec.ofNat 8 (0x03 + 16 * p.code)] 8 ∧
    ∀ s : State, exec (incPair p) s = .next (s.setPair p (s.getPair p + 1))) ∧
  (∀ p : Pair, RowIs (decPair p) [BitVec.ofNat 8 (0x0B + 16 * p.code)] 8 ∧
    ∀ s : State, exec (decPair p) s = .next (s.setPair p (s.getPair p - 1))) ∧
  (∀ p : Pair, RowIs (addHlPair p) [BitVec.ofNat 8 (0x09 + 16 * p.code)] 8 ∧
    ∀ s : State, exec (addHlPair p) s = .next ((s.setHl (BitVec.ofNat 16 (s.hl.toNat + (s.getPair p).toNat))).setFlags
      { z := s.flagZ, n := false, h := decide (s.hl.toNat % 4096 + (s.getPair p).toNat % 4096 > 4095),
        c := decide (s.hl.toNat + (s.getPair p).toNat > 65535) }))

/-- R134, R135, R136: ADD SP,e8 and LD HL,SP+e8; the sum is with the signed offset, the flags with the unsigned one. -/
def Obligations.StackPointerOffset : Prop :=
  ∀ e : Byte, RowIs (.add_sp_e8 e) [0xE8, e] 16 ∧ RowIs (.ld_hl_sp_e8 e) [0xF8, e] 12 ∧ ∀ s : State,
    exec (.add_sp_e8 e) s = .next (({ s with sp := BitVec.ofInt 16 (s.sp.toNat + e.toInt) }).setFlags
      { z := false, n := false, h := decide (s.sp.toNat % 16 + e.toNat % 16 > 15), c := decide (s.sp.toNat % 256 + e.toNat > 255) }) ∧
    exec (.ld_hl_sp_e8 e) s = .next ((s.setHl (BitVec.ofInt 16 (s.sp.toNat + e.toInt))).setFlags
      { z := false, n := false, h := decide (s.sp.toNat % 16 + e.toNat % 16 > 15), c := decide (s.sp.toNat % 256 + e.toNat > 255) })

/-! ## Rotates, shifts, bits -/

/-- R138-R141: the accumulator rotates; Z is cleared whatever the result. -/
def Obligations.AccumulatorRotates : Prop :=
  RowIs .rlca [0x07] 4 ∧ RowIs .rla [0x17] 4 ∧ RowIs .rrca [0x0F] 4 ∧ RowIs .rra [0x1F] 4 ∧ ∀ s : State,
    exec .rlca s = .next (({ s with regs := { s.regs with a := s.regs.a.rotateLeft 1 } }).setFlags
      { z := false, n := false, h := false, c := s.regs.a.getLsbD 7 }) ∧
    exec .rla s = .next (({ s with regs := { s.regs with a := s.regs.a.extractLsb' 0 7 ++ BitVec.ofBool s.flagC } }).setFlags
      { z := false, n := false, h := false, c := s.regs.a.getLsbD 7 }) ∧
    exec .rrca s = .next (({ s with regs := { s.regs with a := s.regs.a.rotateRight 1 } }).setFlags
      { z := false, n := false, h := false, c := s.regs.a.getLsbD 0 }) ∧
    exec .rra s = .next (({ s with regs := { s.regs with a := BitVec.ofBool s.flagC ++ s.regs.a.extractLsb' 1 7 } }).setFlags
      { z := false, n := false, h := false, c := s.regs.a.getLsbD 0 })

/-- R143-R150: RLC, RRC, RL and RR of every target. -/
def Obligations.RotatesOnTargets : Prop :=
  ForRotTargets .rlc (fun i t bytes cycles => RowIs i bytes cycles ∧ ∀ s : State,
    exec i s = .next ((s.writeTarget t ((s.readTarget t).rotateLeft 1)).setFlags
      { z := decide (s.readTarget t = 0), n := false, h := false, c := (s.readTarget t).getLsbD 7 })) ∧
  ForRotTargets .rrc (fun i t bytes cycles => RowIs i bytes cycles ∧ ∀ s : State,
    exec i s = .next ((s.writeTarget t ((s.readTarget t).rotateRight 1)).setFlags
      { z := decide (s.readTarget t = 0), n := false, h := false, c := (s.readTarget t).getLsbD 0 })) ∧
  ForRotTargets .rl (fun i t bytes cycles => RowIs i bytes cycles ∧ ∀ s : State,
    exec i s = .next ((s.writeTarget t ((s.readTarget t).extractLsb' 0 7 ++ BitVec.ofBool s.flagC)).setFlags
      { z := decide ((s.readTarget t).toNat % 128 = 0 ∧ s.flagC = false), n := false, h := false,
        c := (s.readTarget t).getLsbD 7 })) ∧
  ForRotTargets .rr (fun i t bytes cycles => RowIs i bytes cycles ∧ ∀ s : State,
    exec i s = .next ((s.writeTarget t (BitVec.ofBool s.flagC ++ (s.readTarget t).extractLsb' 1 7)).setFlags
      { z := decide ((s.readTarget t).toNat / 2 = 0 ∧ s.flagC = false), n := false, h := false,
        c := (s.readTarget t).getLsbD 0 }))

/-- R151-R158: SLA, SRA, SWAP and SRL of every target. -/
def Obligations.ShiftsOnTargets : Prop :=
  ForRotTargets .sla (fun i t bytes cycles => RowIs i bytes cycles ∧ ∀ s : State,
    exec i s = .next ((s.writeTarget t (BitVec.ofNat 8 (2 * (s.readTarget t).toNat))).setFlags
      { z := decide ((s.readTarget t).toNat % 128 = 0), n := false, h := false, c := (s.readTarget t).getLsbD 7 })) ∧
  ForRotTargets .sra (fun i t bytes cycles => RowIs i bytes cycles ∧ ∀ s : State,
    exec i s = .next ((s.writeTarget t ((s.readTarget t).sshiftRight 1)).setFlags
      { z := decide ((s.readTarget t).toNat / 2 = 0), n := false, h := false, c := (s.readTarget t).getLsbD 0 })) ∧
  ForRotTargets .swap (fun i t bytes cycles => RowIs i bytes cycles ∧ ∀ s : State,
    exec i s = .next ((s.writeTarget t ((s.readTarget t).extractLsb' 0 4 ++ (s.readTarget t).extractLsb' 4 4)).setFlags
      { z := decide (s.readTarget t = 0), n := false, h := false, c := false })) ∧
  ForRotTargets .srl (fun i t bytes cycles => RowIs i bytes cycles ∧ ∀ s : State,
    exec i s = .next ((s.writeTarget t (BitVec.ofNat 8 ((s.readTarget t).toNat / 2))).setFlags
      { z := decide ((s.readTarget t).toNat / 2 = 0), n := false, h := false, c := (s.readTarget t).getLsbD 0 }))

/-- R159-R164: BIT, RES and SET of every bit and target. -/
def Obligations.BitOperations : Prop :=
  (∀ (b : Fin 8) (r : Reg8),
    RowIs (bitReg b r) [0xCB, BitVec.ofNat 8 (0x40 + 8 * b.val + r.code)] 8 ∧
    RowIs (resReg b r) [0xCB, BitVec.ofNat 8 (0x80 + 8 * b.val + r.code)] 8 ∧
    RowIs (setReg b r) [0xCB, BitVec.ofNat 8 (0xC0 + 8 * b.val + r.code)] 8 ∧ ∀ s : State,
    exec (bitReg b r) s = .next (s.setFlags { z := !(s.getReg r).getLsbD b.val, n := false, h := true, c := s.flagC }) ∧
    (∃ v : Byte, exec (resReg b r) s = .next (s.setReg r v) ∧
      ∀ k < 8, v.getLsbD k = if k = b.val then false else (s.getReg r).getLsbD k) ∧
    (∃ v : Byte, exec (setReg b r) s = .next (s.setReg r v) ∧
      ∀ k < 8, v.getLsbD k = if k = b.val then true else (s.getReg r).getLsbD k)) ∧
  (∀ b : Fin 8,
    RowIs (bitMhl b) [0xCB, BitVec.ofNat 8 (0x46 + 8 * b.val)] 12 ∧
    RowIs (resMhl b) [0xCB, BitVec.ofNat 8 (0x86 + 8 * b.val)] 16 ∧
    RowIs (setMhl b) [0xCB, BitVec.ofNat 8 (0xC6 + 8 * b.val)] 16 ∧ ∀ s : State,
    exec (bitMhl b) s = .next (s.setFlags { z := !(s.memRead s.hl).getLsbD b.val, n := false, h := true, c := s.flagC }) ∧
    (∃ v : Byte, exec (resMhl b) s = .next (s.memWrite s.hl v) ∧
      ∀ k < 8, v.getLsbD k = if k = b.val then false else (s.memRead s.hl).getLsbD k) ∧
    (∃ v : Byte, exec (setMhl b) s = .next (s.memWrite s.hl v) ∧
      ∀ k < 8, v.getLsbD k = if k = b.val then true else (s.memRead s.hl).getLsbD k))

/-! ## Control transfer and the stack -/

/-- 45_control.md sections 1, 2 and 4 (R165-R169, R176), the jumps; the two costs of a conditional jump in the two values
of `cond_cost_mode` are decision D8 (R70). `s.pc` is past the instruction, so JR adds the signed offset to it. -/
def Obligations.Jumps : Prop :=
  (∀ s : State, s.cond .nz = !s.flagZ ∧ s.cond .z = s.flagZ ∧ s.cond .nc = !s.flagC ∧ s.cond .c = s.flagC) ∧
  (∀ a : Word, RowIs (.jp_a16 a) [0xC3, a.extractLsb' 0 8, a.extractLsb' 8 8] 16 ∧
    ∀ s : State, exec (.jp_a16 a) s = .next { s with pc := a }) ∧
  (∀ (cc : Cond) (a : Word),
    CondRowIs (jpCond a cc) [BitVec.ofNat 8 (0xC2 + 8 * cc.code), a.extractLsb' 0 8, a.extractLsb' 8 8] cc 16 12 ∧
    ∀ s : State, exec (jpCond a cc) s = .next (if s.cond cc then { s with pc := a } else s)) ∧
  (∀ e : Byte, RowIs (.jr_e8 e) [0x18, e] 12 ∧
    ∀ s : State, exec (.jr_e8 e) s = .next { s with pc := BitVec.ofInt 16 (s.pc.toNat + e.toInt) }) ∧
  (∀ (cc : Cond) (e : Byte), CondRowIs (jrCond e cc) [BitVec.ofNat 8 (0x20 + 8 * cc.code), e] cc 12 8 ∧
    ∀ s : State, exec (jrCond e cc) s = .next (if s.cond cc then { s with pc := BitVec.ofInt 16 (s.pc.toNat + e.toInt) } else s)) ∧
  (RowIs .jp_hl [0xE9] 4 ∧ ∀ s : State, exec .jp_hl s = .next { s with pc := s.hl })

/-- 45_control.md section 3 (R170, R171, R175) with the push of 46_stack.md (R181): CALL, CALL cc and RST push the pc past
the instruction, high byte first, and jump; the cost of CALL cc in the two values of `cond_cost_mode` is decision D8
(R70). -/
def Obligations.CallsAndRestarts : Prop :=
  (∀ a : Word, RowIs (.call_a16 a) [0xCD, a.extractLsb' 0 8, a.extractLsb' 8 8] 24 ∧
    ∀ s : State, exec (.call_a16 a) s = .next { s.push16 s.pc with pc := a }) ∧
  (∀ (cc : Cond) (a : Word),
    CondRowIs (callCond a cc) [BitVec.ofNat 8 (0xC4 + 8 * cc.code), a.extractLsb' 0 8, a.extractLsb' 8 8] cc 24 12 ∧
    ∀ s : State, exec (callCond a cc) s = .next (if s.cond cc then { s.push16 s.pc with pc := a } else s)) ∧
  (∀ k : Fin 8, RowIs (rstRow k) [BitVec.ofNat 8 (0xC7 + 8 * k.val)] 16 ∧
    ∀ s : State, exec (rstRow k) s = .next { s.push16 s.pc with pc := BitVec.ofNat 16 (8 * k.val) }) ∧
  (∀ (s : State) (v : Word), s.push16 v =
    (({ s with sp := s.sp - 2 }).memWrite (s.sp - 1) (v.extractLsb' 8 8)).memWrite (s.sp - 2) (v.extractLsb' 0 8))

/-- 45_control.md section 3 (R172, R173) with the pop of 46_stack.md (R183): RET and RET cc pop pc, low byte at SP, high
byte at SP + 1; the cost of RET cc in the two values of `cond_cost_mode` is decision D8 (R70). -/
def Obligations.Returns : Prop :=
  (RowIs .ret [0xC9] 16 ∧ ∀ s : State,
    exec .ret s = .next { s with sp := s.sp + 2, pc := s.memRead (s.sp + 1) ++ s.memRead s.sp }) ∧
  (∀ cc : Cond, CondRowIs (retCond cc) [BitVec.ofNat 8 (0xC0 + 8 * cc.code)] cc 20 8 ∧ ∀ s : State,
    exec (retCond cc) s = .next (if s.cond cc then { s with sp := s.sp + 2, pc := s.memRead (s.sp + 1) ++ s.memRead s.sp } else s))

/-- R181-R184: PUSH rr and POP rr; POP AF masks the low nibble of F. -/
def Obligations.PushAndPop : Prop :=
  (∀ q : StackPair, RowIs (pushPair q) [BitVec.ofNat 8 (0xC5 + 16 * q.code)] 16 ∧ ∀ s : State,
    exec (pushPair q) s = .next ((({ s with sp := s.sp - 2 }).memWrite (s.sp - 1) ((s.getStackPair q).extractLsb' 8 8)).memWrite
      (s.sp - 2) ((s.getStackPair q).extractLsb' 0 8))) ∧
  (∀ q : StackPair, RowIs (popPair q) [BitVec.ofNat 8 (0xC1 + 16 * q.code)] 12 ∧ ∀ s : State,
    exec (popPair q) s = .next (({ s with sp := s.sp + 2 }).setStackPair q (s.memRead (s.sp + 1) ++ s.memRead s.sp))) ∧
  (∀ (s : State) (v : Word), (s.setStackPair .af v).regs.a = v.extractLsb' 8 8 ∧
    (s.setStackPair .af v).regs.f = v.extractLsb' 0 8 &&& 0xF0)

/-- 46_stack.md, the round trip (the spec derives its range): PUSH rr then POP rr restores every register and SP, for
every SP, unless a byte of the entry lands on 0xFF04. Of AF, F[3:0] is zero by the invariant. -/
def Obligations.PushPopRoundTrip : Prop :=
  ∀ (s : State) (q : StackPair), s.Inv → s.sp - 1 ≠ 0xFF04 → s.sp - 2 ≠ 0xFF04 →
    ∃ t u : State, exec (pushPair q) s = .next t ∧ exec (popPair q) t = .next u ∧ u.regs = s.regs ∧ u.sp = s.sp ∧ u.pc = s.pc

/-- 45_control.md section 5 (derived there): CALL or RST, then RET, resumes at the byte after the call with SP as it was,
unless a byte of the entry lands on 0xFF04. -/
def Obligations.CallReturnRoundTrip : Prop :=
  ∀ (s : State), s.Inv → s.sp - 1 ≠ 0xFF04 → s.sp - 2 ≠ 0xFF04 →
    (∀ a : Word, ∃ t u : State, exec (.call_a16 a) s = .next t ∧ t.pc = a ∧ exec .ret t = .next u ∧
      u.pc = s.pc ∧ u.sp = s.sp ∧ u.regs = s.regs) ∧
    (∀ k : Fin 8, ∃ t u : State, exec (rstRow k) s = .next t ∧ t.pc = BitVec.ofNat 16 (8 * k.val) ∧ exec .ret t = .next u ∧
      u.pc = s.pc ∧ u.sp = s.sp ∧ u.regs = s.regs)

/-! ## System -/

/-- 47_system.md, NOP and DI (R186, R187): NOP's body changes nothing, and its step advances pc, reports 4 cycles and runs
the tail (its order is decision D12); DI clears IME and the schedule, and its step leaves both clear, dispatches
nothing and clears neither IF nor IE (the spec derives these clauses of the step). -/
def Obligations.NopAndDisable : Prop :=
  RowIs .nop [0x00] 4 ∧ RowIs .di [0xF3] 4 ∧ ∀ s : State,
    exec .nop s = .next s ∧ exec .di s = .next { s with ime := false, imeScheduled := false } ∧
    (s.halted = false → s.memRead s.pc = 0x00 →
      step s = .next ((({ s with pc := s.pc + 1 }).reportCycles 4).stepTail s.imeScheduled)) ∧
    (s.halted = false → s.memRead s.pc = 0xF3 → ∃ t : State, step s = .next t ∧ t.ime = false ∧ t.imeScheduled = false ∧
      t.pc = s.pc + 1 ∧ t.sp = s.sp ∧ t.ieReg = s.ieReg ∧ (t.ifReg = s.ifReg ∨ t.ifReg = s.ifReg ||| 0x04))

/-- 47_system.md and 45_control.md section 3 (decisions D12, D15, D23): EI and RETI schedule the enable, RETI pops pc;
HALT halts, but for the case it raises in. -/
def Obligations.EnableHaltAndReturnFromInterrupt : Prop :=
  RowIs .ei [0xFB] 4 ∧ RowIs .reti [0xD9] 16 ∧ RowIs .halt [0x76] 4 ∧ ∀ s : State,
    exec .ei s = .next { s with imeScheduled := true } ∧
    exec .reti s = .next { s with sp := s.sp + 2, pc := s.memRead (s.sp + 1) ++ s.memRead s.sp, imeScheduled := true } ∧
    (s.ime = true ∨ s.imeScheduled = true ∨ s.snapshot = 0 → exec .halt s = .next { s with halted := true }) ∧
    (s.ime = false → s.imeScheduled = false → s.snapshot ≠ 0 → exec .halt s = .fault (.unimplemented 0x76))

/-- 47_system.md (decisions D16, D24): STOP raises Unimplemented(0x10) whatever its second byte is, and each unassigned
byte decodes to its row and raises Unsupported of that byte. -/
def Obligations.StopAndUnsupportedRaise : Prop :=
  (∀ (n m : Byte) (s : State), decode3 0x10 n m = .stop n ∧ exec (.stop n) s = .fault (.unimplemented 0x10)) ∧
  (∀ p ∈ unsupportedRows, ∀ (n m : Byte) (s : State), decode3 p.1 n m = p.2 ∧ encode p.2 = [p.1] ∧
    exec p.2 s = .fault (.unsupported p.1)) ∧
  unsupportedRows = [(0xD3, .unsupported_d3), (0xDB, .unsupported_db), (0xDD, .unsupported_dd), (0xE3, .unsupported_e3),
    (0xE4, .unsupported_e4), (0xEB, .unsupported_eb), (0xEC, .unsupported_ec), (0xED, .unsupported_ed),
    (0xF4, .unsupported_f4), (0xFC, .unsupported_fc), (0xFD, .unsupported_fd)]

/-- 47_system.md on PREFIX CB, with the model's prefix term (log entry 6): every second byte selects a row of CB_TABLE,
decoding gives that row and not the prefix term, and the prefix term has that row's effect, which completes, and
its cost. -/
def Obligations.PrefixRunsSelectedRow : Prop :=
  ∀ (la m : Byte),
    decode3 0xCB la m = cbTable la ∧ (cbTable la).wf = true ∧ encode (cbTable la) = [0xCB, la] ∧
    ∀ s : State, (∃ t : State, exec (.prefix_cb la) s = .next t ∧ exec (cbTable la) s = .next t) ∧
      cost (.prefix_cb la) s = cost (cbTable la) s

/-! ## Frames of the whole instruction set -/

/-- R34: every instruction that completes writes each flag as the flags column says: unchanged, forced or computed. F[3:0]
changes in POP AF only, which clears it. -/
def Obligations.FlagEffectsOfEveryInstruction : Prop :=
  ∀ (i : Instr) (s t : State), exec i s = .next t →
    (flagsColumn (selectedRow i)).z.Allows s.flagZ t.flagZ ∧ (flagsColumn (selectedRow i)).n.Allows s.flagN t.flagN ∧
    (flagsColumn (selectedRow i)).h.Allows s.flagH t.flagH ∧ (flagsColumn (selectedRow i)).c.Allows s.flagC t.flagC ∧
    t.regs.f &&& 0x0F = if i = .pop_af then 0 else s.regs.f &&& 0x0F

/-- 10_state.md sections 3, 4 and 10, 47_system.md's summary table (derived there): a completed instruction leaves every
single register outside its row's list, SP and pc unless its row writes them, IME except DI, the schedule except
DI, EI and RETI, the halt except HALT, and the parameters. -/
def Obligations.RegistersOutsideRowUnchanged : Prop :=
  ∀ (i : Instr) (s t : State), exec i s = .next t →
    (∀ r : Reg8, r ∉ regsWritten (selectedRow i) → t.getReg r = s.getReg r) ∧
    (writesSp i = false → t.sp = s.sp) ∧ (writesPc i = false → t.pc = s.pc) ∧
    (i ≠ .di → t.ime = s.ime) ∧ (i ≠ .di → i ≠ .ei → i ≠ .reti → t.imeScheduled = s.imeScheduled) ∧
    (i ≠ .halt → t.halted = s.halted) ∧ t.params = s.params

/-- 20_memory.md section 5 (derived there): a completed instruction leaves every byte outside the addresses its row stores
to, computed from the state before it; the cycle counters too, but for a store to 0xFF04; and the array cells behind
the four timer addresses always. -/
def Obligations.MemoryOutsideStoresUnchanged : Prop :=
  ∀ (i : Instr) (s t : State), exec i s = .next t →
    (∀ a : Word, a ∉ storedAddrs (selectedRow i) s → t.memRead a = s.memRead a) ∧
    (0xFF04 ∉ storedAddrs (selectedRow i) s → t.timer.divCounter = s.timer.divCounter) ∧
    t.timer.timaCounter = s.timer.timaCounter ∧
    (∀ a : Word, 0xFF04 ≤ a → a ≤ 0xFF07 → t.mem.read a.toNat = s.mem.read a.toNat)
end

