-- ==== Sys2Proof/Laws/Bits.lean ====
section
/-! SUPPORT. The bit-field helpers as arithmetic: bytes of a word, nibbles, sign extension, the flag bits of F. -/

namespace Sys2Proof

@[simp] theorem Word.hi_mkWord (h l : Byte) : (mkWord h l).hi = h := by
  apply BitVec.eq_of_getLsbD_eq
  intro i hi
  simp only [mkWord, Word.hi, BitVec.getLsbD_append, BitVec.getLsbD_extractLsb']
  simp [hi]

@[simp] theorem Word.lo_mkWord (h l : Byte) : (mkWord h l).lo = l := by
  apply BitVec.eq_of_getLsbD_eq
  intro i hi
  simp only [mkWord, Word.lo, BitVec.getLsbD_append, BitVec.getLsbD_extractLsb']
  simp [hi]

@[simp] theorem mkWord_hi_lo (v : Word) : mkWord v.hi v.lo = v := by
  apply BitVec.eq_of_getLsbD_eq
  intro i hi
  simp only [mkWord, Word.hi, Word.lo, BitVec.getLsbD_append, BitVec.getLsbD_extractLsb']
  by_cases h : i < 8
  · simp [h]
  · simp [h, show 8 + (i - 8) = i by omega, show i - 8 < 8 by omega]

theorem mkWord_toNat (h l : Byte) : (mkWord h l).toNat = h.toNat * 256 + l.toNat := by
  have hl := l.isLt
  simp only [mkWord, BitVec.toNat_append, Nat.shiftLeft_eq]
  rw [Nat.mul_comm, ← Nat.two_pow_add_eq_or_of_lt hl]

theorem sub_one_sub_one (p : Word) : p - 1 - 1 = p - 2 := by
  rw [BitVec.sub_sub]
  rfl

theorem add_one_add_one (p : Word) : p + 1 + 1 = p + 2 := by
  rw [BitVec.add_assoc]
  rfl

theorem nibble_toNat (a : Byte) : (a &&& 0x0F).toNat = a.toNat % 16 := by
  rw [BitVec.toNat_and]
  exact Nat.and_two_pow_sub_one_eq_mod a.toNat 4

theorem sext16_eq_signExtend : ∀ e : Byte, sext16 e = e.signExtend 16 := by
  decide

/-- A relative target is the sum with the signed offset (spec/00_scope.md R9). -/
theorem add_sext16 (p : Word) (e : Byte) : p + sext16 e = BitVec.ofInt 16 (p.toNat + e.toInt) := by
  have h : (e.signExtend 16 : Word) = BitVec.ofInt 16 e.toInt := rfl
  rw [sext16_eq_signExtend, h, BitVec.ofInt_add]
  congr 1
  simp

end Sys2Proof

namespace Sys2Proof.Machine

theorem Flags.toByte_bits (fl : Flags) :
    fl.toByte.getLsbD 7 = fl.z ∧ fl.toByte.getLsbD 6 = fl.n ∧ fl.toByte.getLsbD 5 = fl.h ∧ fl.toByte.getLsbD 4 = fl.c ∧
      fl.toByte &&& 0x0F = 0 := by
  obtain ⟨z, n, h, c⟩ := fl
  revert z n h c
  decide

/-- What is set reads back. -/
@[simp] theorem State.flags_setFlags (s : State) (fl : Flags) : (s.setFlags fl).flags = fl := by
  obtain ⟨hz, hn, hh, hc, -⟩ := Flags.toByte_bits fl
  simp only [State.flags, State.flagZ, State.flagN, State.flagH, State.flagC, State.setFlags, BitVec.getLsbD_or,
    BitVec.getLsbD_and, hz, hn, hh, hc]
  simp

/-- The setters leave the low nibble of F. -/
@[simp] theorem State.setFlags_low (s : State) (fl : Flags) : (s.setFlags fl).regs.f &&& 0x0F = s.regs.f &&& 0x0F := by
  show (fl.toByte ||| (s.regs.f &&& 0x0F)) &&& 0x0F = s.regs.f &&& 0x0F
  have h := (Flags.toByte_bits fl).2.2.2.2
  apply BitVec.eq_of_getLsbD_eq
  intro i hi
  have hb := congrArg (fun b : Byte => b.getLsbD i) h
  simp only [BitVec.getLsbD_and, BitVec.getLsbD_or] at hb ⊢
  cases h1 : fl.toByte.getLsbD i <;> cases h2 : s.regs.f.getLsbD i <;> simp_all

/-- With IME false, nothing scheduled and the core not halted, the tail does nothing. -/
theorem State.stepTail_quiet {s : State} (b : Bool) (hi : s.ime = false) (hs : b = false ∨ s.imeScheduled = false)
    (hh : s.halted = false) : s.stepTail b = s := by
  rcases hs with rfl | hs <;> simp [State.stepTail, State.applyDelayedIme, State.wake, State.interruptCheck, *]

end Sys2Proof.Machine
end

