-- ==== Sys2Proof/Laws/Bodies.lean ====
section
/-! SUPPORT. All that a body can be: `exec i s` is one of the shared operations, or one of the few bodies that stand alone.
A fact about every instruction that does not depend on its row follows by cases on `exec_body`. -/

namespace Sys2Proof.Machine

/-- The bodies of CORE from `s`, up to operands. -/
inductive Body (s : State) : Result → Prop where
  | ld8 (d : Target8) (v : Byte) : Body s (Machine.ld8 d v s)
  | store8 (a : Word) (v : Byte) : Body s (Machine.store8 a v s)
  | store16 (a v : Word) : Body s (Machine.store16 a v s)
  | ld16 (p : Pair) (v : Word) : Body s (Machine.ld16 p v s)
  | storeStep (w : Word) : Body s (Machine.storeStep w s)
  | loadStep (w : Word) : Body s (Machine.loadStep w s)
  | aluA (op : AluOp) (v : Byte) : Body s (Machine.aluA op v s)
  | inc8 (d : Target8) : Body s (Machine.inc8 d s)
  | dec8 (d : Target8) : Body s (Machine.dec8 d s)
  | decimalAdjust : Body s (Machine.decimalAdjust s)
  | complementA : Body s (Machine.complementA s)
  | writeCarry (c : Bool) : Body s (Machine.writeCarry c s)
  | addHl (v : Word) : Body s (Machine.addHl v s)
  | addSpTo (p : Pair) (e : Byte) : Body s (Machine.addSpTo p e s)
  | rotA (op : RotOp) : Body s (Machine.rotA op s)
  | rot (op : RotOp) (d : Target8) : Body s (Machine.rot op d s)
  | testBit (b : Nat) (d : Target8) : Body s (Machine.testBit b d s)
  | resetBit (b : Nat) (d : Target8) : Body s (Machine.resetBit b d s)
  | setBit (b : Nat) (d : Target8) : Body s (Machine.setBit b d s)
  | jump (a : Word) : Body s (Machine.jump a s)
  | jumpIf (taken : Bool) (a : Word) : Body s (Machine.jumpIf taken a s)
  | call (a : Word) : Body s (Machine.call a s)
  | callIf (taken : Bool) (a : Word) : Body s (Machine.callIf taken a s)
  | ret : Body s (Machine.ret s)
  | retIf (taken : Bool) : Body s (Machine.retIf taken s)
  | push (q : StackPair) : Body s (Machine.push q s)
  | pop (q : StackPair) : Body s (Machine.pop q s)
  | haltBody : Body s (Machine.haltBody s)
  | cbBody (la : Byte) : Body s (Machine.cbBody la s)
  | unchanged : Body s (.next s)
  | disable : Body s (.next { s with ime := false, imeScheduled := false })
  | enable : Body s (.next { s with imeScheduled := true })
  | interruptReturn : Body s (.next s.returnFromInterrupt)
  | raise (e : Fault) : Body s (.fault e)

/-- Every instruction's body is one of them. -/
theorem exec_body (s : State) : ∀ i : Instr, Body s (exec i s)
  | .nop => .unchanged
  | .ld_bc_n16 _ => .ld16 _ _
  | .ld_mbc_a => .store8 _ _
  | .inc_bc => .ld16 _ _
  | .inc_b => .inc8 _
  | .dec_b => .dec8 _
  | .ld_b_n8 _ => .ld8 _ _
  | .rlca => .rotA _
  | .ld_ma16_sp _ => .store16 _ _
  | .add_hl_bc => .addHl _
  | .ld_a_mbc => .ld8 _ _
  | .dec_bc => .ld16 _ _
  | .inc_c => .inc8 _
  | .dec_c => .dec8 _
  | .ld_c_n8 _ => .ld8 _ _
  | .rrca => .rotA _
  | .stop _ => .raise _
  | .ld_de_n16 _ => .ld16 _ _
  | .ld_mde_a => .store8 _ _
  | .inc_de => .ld16 _ _
  | .inc_d => .inc8 _
  | .dec_d => .dec8 _
  | .ld_d_n8 _ => .ld8 _ _
  | .rla => .rotA _
  | .jr_e8 _ => .jump _
  | .add_hl_de => .addHl _
  | .ld_a_mde => .ld8 _ _
  | .dec_de => .ld16 _ _
  | .inc_e => .inc8 _
  | .dec_e => .dec8 _
  | .ld_e_n8 _ => .ld8 _ _
  | .rra => .rotA _
  | .jr_nz_e8 _ => .jumpIf _ _
  | .ld_hl_n16 _ => .ld16 _ _
  | .ld_mhli_a => .storeStep _
  | .inc_hl => .ld16 _ _
  | .inc_h => .inc8 _
  | .dec_h => .dec8 _
  | .ld_h_n8 _ => .ld8 _ _
  | .daa => .decimalAdjust
  | .jr_z_e8 _ => .jumpIf _ _
  | .add_hl_hl => .addHl _
  | .ld_a_mhli => .loadStep _
  | .dec_hl => .ld16 _ _
  | .inc_l => .inc8 _
  | .dec_l => .dec8 _
  | .ld_l_n8 _ => .ld8 _ _
  | .cpl => .complementA
  | .jr_nc_e8 _ => .jumpIf _ _
  | .ld_sp_n16 _ => .ld16 _ _
  | .ld_mhld_a => .storeStep _
  | .inc_sp => .ld16 _ _
  | .inc_mhl => .inc8 _
  | .dec_mhl => .dec8 _
  | .ld_mhl_n8 _ => .ld8 _ _
  | .scf => .writeCarry _
  | .jr_c_e8 _ => .jumpIf _ _
  | .add_hl_sp => .addHl _
  | .ld_a_mhld => .loadStep _
  | .dec_sp => .ld16 _ _
  | .inc_a => .inc8 _
  | .dec_a => .dec8 _
  | .ld_a_n8 _ => .ld8 _ _
  | .ccf => .writeCarry _
  | .ld_b_b => .ld8 _ _
  | .ld_b_c => .ld8 _ _
  | .ld_b_d => .ld8 _ _
  | .ld_b_e => .ld8 _ _
  | .ld_b_h => .ld8 _ _
  | .ld_b_l => .ld8 _ _
  | .ld_b_mhl => .ld8 _ _
  | .ld_b_a => .ld8 _ _
  | .ld_c_b => .ld8 _ _
  | .ld_c_c => .ld8 _ _
  | .ld_c_d => .ld8 _ _
  | .ld_c_e => .ld8 _ _
  | .ld_c_h => .ld8 _ _
  | .ld_c_l => .ld8 _ _
  | .ld_c_mhl => .ld8 _ _
  | .ld_c_a => .ld8 _ _
  | .ld_d_b => .ld8 _ _
  | .ld_d_c => .ld8 _ _
  | .ld_d_d => .ld8 _ _
  | .ld_d_e => .ld8 _ _
  | .ld_d_h => .ld8 _ _
  | .ld_d_l => .ld8 _ _
  | .ld_d_mhl => .ld8 _ _
  | .ld_d_a => .ld8 _ _
  | .ld_e_b => .ld8 _ _
  | .ld_e_c => .ld8 _ _
  | .ld_e_d => .ld8 _ _
  | .ld_e_e => .ld8 _ _
  | .ld_e_h => .ld8 _ _
  | .ld_e_l => .ld8 _ _
  | .ld_e_mhl => .ld8 _ _
  | .ld_e_a => .ld8 _ _
  | .ld_h_b => .ld8 _ _
  | .ld_h_c => .ld8 _ _
  | .ld_h_d => .ld8 _ _
  | .ld_h_e => .ld8 _ _
  | .ld_h_h => .ld8 _ _
  | .ld_h_l => .ld8 _ _
  | .ld_h_mhl => .ld8 _ _
  | .ld_h_a => .ld8 _ _
  | .ld_l_b => .ld8 _ _
  | .ld_l_c => .ld8 _ _
  | .ld_l_d => .ld8 _ _
  | .ld_l_e => .ld8 _ _
  | .ld_l_h => .ld8 _ _
  | .ld_l_l => .ld8 _ _
  | .ld_l_mhl => .ld8 _ _
  | .ld_l_a => .ld8 _ _
  | .ld_mhl_b => .ld8 _ _
  | .ld_mhl_c => .ld8 _ _
  | .ld_mhl_d => .ld8 _ _
  | .ld_mhl_e => .ld8 _ _
  | .ld_mhl_h => .ld8 _ _
  | .ld_mhl_l => .ld8 _ _
  | .halt => .haltBody
  | .ld_mhl_a => .ld8 _ _
  | .ld_a_b => .ld8 _ _
  | .ld_a_c => .ld8 _ _
  | .ld_a_d => .ld8 _ _
  | .ld_a_e => .ld8 _ _
  | .ld_a_h => .ld8 _ _
  | .ld_a_l => .ld8 _ _
  | .ld_a_mhl => .ld8 _ _
  | .ld_a_a => .ld8 _ _
  | .add_a_b => .aluA _ _
  | .add_a_c => .aluA _ _
  | .add_a_d => .aluA _ _
  | .add_a_e => .aluA _ _
  | .add_a_h => .aluA _ _
  | .add_a_l => .aluA _ _
  | .add_a_mhl => .aluA _ _
  | .add_a_a => .aluA _ _
  | .adc_a_b => .aluA _ _
  | .adc_a_c => .aluA _ _
  | .adc_a_d => .aluA _ _
  | .adc_a_e => .aluA _ _
  | .adc_a_h => .aluA _ _
  | .adc_a_l => .aluA _ _
  | .adc_a_mhl => .aluA _ _
  | .adc_a_a => .aluA _ _
  | .sub_b => .aluA _ _
  | .sub_c => .aluA _ _
  | .sub_d => .aluA _ _
  | .sub_e => .aluA _ _
  | .sub_h => .aluA _ _
  | .sub_l => .aluA _ _
  | .sub_mhl => .aluA _ _
  | .sub_a => .aluA _ _
  | .sbc_a_b => .aluA _ _
  | .sbc_a_c => .aluA _ _
  | .sbc_a_d => .aluA _ _
  | .sbc_a_e => .aluA _ _
  | .sbc_a_h => .aluA _ _
  | .sbc_a_l => .aluA _ _
  | .sbc_a_mhl => .aluA _ _
  | .sbc_a_a => .aluA _ _
  | .and_b => .aluA _ _
  | .and_c => .aluA _ _
  | .and_d => .aluA _ _
  | .and_e => .aluA _ _
  | .and_h => .aluA _ _
  | .and_l => .aluA _ _
  | .and_mhl => .aluA _ _
  | .and_a => .aluA _ _
  | .xor_b => .aluA _ _
  | .xor_c => .aluA _ _
  | .xor_d => .aluA _ _
  | .xor_e => .aluA _ _
  | .xor_h => .aluA _ _
  | .xor_l => .aluA _ _
  | .xor_mhl => .aluA _ _
  | .xor_a => .aluA _ _
  | .or_b => .aluA _ _
  | .or_c => .aluA _ _
  | .or_d => .aluA _ _
  | .or_e => .aluA _ _
  | .or_h => .aluA _ _
  | .or_l => .aluA _ _
  | .or_mhl => .aluA _ _
  | .or_a => .aluA _ _
  | .cp_b => .aluA _ _
  | .cp_c => .aluA _ _
  | .cp_d => .aluA _ _
  | .cp_e => .aluA _ _
  | .cp_h => .aluA _ _
  | .cp_l => .aluA _ _
  | .cp_mhl => .aluA _ _
  | .cp_a => .aluA _ _
  | .ret_nz => .retIf _
  | .pop_bc => .pop _
  | .jp_nz_a16 _ => .jumpIf _ _
  | .jp_a16 _ => .jump _
  | .call_nz_a16 _ => .callIf _ _
  | .push_bc => .push _
  | .add_a_n8 _ => .aluA _ _
  | .rst_0x00 => .call _
  | .ret_z => .retIf _
  | .ret => .ret
  | .jp_z_a16 _ => .jumpIf _ _
  | .prefix_cb _ => .cbBody _
  | .call_z_a16 _ => .callIf _ _
  | .call_a16 _ => .call _
  | .adc_a_n8 _ => .aluA _ _
  | .rst_0x08 => .call _
  | .ret_nc => .retIf _
  | .pop_de => .pop _
  | .jp_nc_a16 _ => .jumpIf _ _
  | .unsupported_d3 => .raise _
  | .call_nc_a16 _ => .callIf _ _
  | .push_de => .push _
  | .sub_n8 _ => .aluA _ _
  | .rst_0x10 => .call _
  | .ret_c => .retIf _
  | .reti => .interruptReturn
  | .jp_c_a16 _ => .jumpIf _ _
  | .unsupported_db => .raise _
  | .call_c_a16 _ => .callIf _ _
  | .unsupported_dd => .raise _
  | .sbc_a_n8 _ => .aluA _ _
  | .rst_0x18 => .call _
  | .ldh_ma8_a _ => .store8 _ _
  | .pop_hl => .pop _
  | .ld_mc_a => .store8 _ _
  | .unsupported_e3 => .raise _
  | .unsupported_e4 => .raise _
  | .push_hl => .push _
  | .and_n8 _ => .aluA _ _
  | .rst_0x20 => .call _
  | .add_sp_e8 _ => .addSpTo _ _
  | .jp_hl => .jump _
  | .ld_ma16_a _ => .store8 _ _
  | .unsupported_eb => .raise _
  | .unsupported_ec => .raise _
  | .unsupported_ed => .raise _
  | .xor_n8 _ => .aluA _ _
  | .rst_0x28 => .call _
  | .ldh_a_ma8 _ => .ld8 _ _
  | .pop_af => .pop _
  | .ld_a_mc => .ld8 _ _
  | .di => .disable
  | .unsupported_f4 => .raise _
  | .push_af => .push _
  | .or_n8 _ => .aluA _ _
  | .rst_0x30 => .call _
  | .ld_hl_sp_e8 _ => .addSpTo _ _
  | .ld_sp_hl => .ld16 _ _
  | .ld_a_ma16 _ => .ld8 _ _
  | .ei => .enable
  | .unsupported_fc => .raise _
  | .unsupported_fd => .raise _
  | .cp_n8 _ => .aluA _ _
  | .rst_0x38 => .call _
  | .rlc_b => .rot _ _
  | .rlc_c => .rot _ _
  | .rlc_d => .rot _ _
  | .rlc_e => .rot _ _
  | .rlc_h => .rot _ _
  | .rlc_l => .rot _ _
  | .rlc_mhl => .rot _ _
  | .rlc_a => .rot _ _
  | .rrc_b => .rot _ _
  | .rrc_c => .rot _ _
  | .rrc_d => .rot _ _
  | .rrc_e => .rot _ _
  | .rrc_h => .rot _ _
  | .rrc_l => .rot _ _
  | .rrc_mhl => .rot _ _
  | .rrc_a => .rot _ _
  | .rl_b => .rot _ _
  | .rl_c => .rot _ _
  | .rl_d => .rot _ _
  | .rl_e => .rot _ _
  | .rl_h => .rot _ _
  | .rl_l => .rot _ _
  | .rl_mhl => .rot _ _
  | .rl_a => .rot _ _
  | .rr_b => .rot _ _
  | .rr_c => .rot _ _
  | .rr_d => .rot _ _
  | .rr_e => .rot _ _
  | .rr_h => .rot _ _
  | .rr_l => .rot _ _
  | .rr_mhl => .rot _ _
  | .rr_a => .rot _ _
  | .sla_b => .rot _ _
  | .sla_c => .rot _ _
  | .sla_d => .rot _ _
  | .sla_e => .rot _ _
  | .sla_h => .rot _ _
  | .sla_l => .rot _ _
  | .sla_mhl => .rot _ _
  | .sla_a => .rot _ _
  | .sra_b => .rot _ _
  | .sra_c => .rot _ _
  | .sra_d => .rot _ _
  | .sra_e => .rot _ _
  | .sra_h => .rot _ _
  | .sra_l => .rot _ _
  | .sra_mhl => .rot _ _
  | .sra_a => .rot _ _
  | .swap_b => .rot _ _
  | .swap_c => .rot _ _
  | .swap_d => .rot _ _
  | .swap_e => .rot _ _
  | .swap_h => .rot _ _
  | .swap_l => .rot _ _
  | .swap_mhl => .rot _ _
  | .swap_a => .rot _ _
  | .srl_b => .rot _ _
  | .srl_c => .rot _ _
  | .srl_d => .rot _ _
  | .srl_e => .rot _ _
  | .srl_h => .rot _ _
  | .srl_l => .rot _ _
  | .srl_mhl => .rot _ _
  | .srl_a => .rot _ _
  | .bit_0_b => .testBit _ _
  | .bit_0_c => .testBit _ _
  | .bit_0_d => .testBit _ _
  | .bit_0_e => .testBit _ _
  | .bit_0_h => .testBit _ _
  | .bit_0_l => .testBit _ _
  | .bit_0_mhl => .testBit _ _
  | .bit_0_a => .testBit _ _
  | .bit_1_b => .testBit _ _
  | .bit_1_c => .testBit _ _
  | .bit_1_d => .testBit _ _
  | .bit_1_e => .testBit _ _
  | .bit_1_h => .testBit _ _
  | .bit_1_l => .testBit _ _
  | .bit_1_mhl => .testBit _ _
  | .bit_1_a => .testBit _ _
  | .bit_2_b => .testBit _ _
  | .bit_2_c => .testBit _ _
  | .bit_2_d => .testBit _ _
  | .bit_2_e => .testBit _ _
  | .bit_2_h => .testBit _ _
  | .bit_2_l => .testBit _ _
  | .bit_2_mhl => .testBit _ _
  | .bit_2_a => .testBit _ _
  | .bit_3_b => .testBit _ _
  | .bit_3_c => .testBit _ _
  | .bit_3_d => .testBit _ _
  | .bit_3_e => .testBit _ _
  | .bit_3_h => .testBit _ _
  | .bit_3_l => .testBit _ _
  | .bit_3_mhl => .testBit _ _
  | .bit_3_a => .testBit _ _
  | .bit_4_b => .testBit _ _
  | .bit_4_c => .testBit _ _
  | .bit_4_d => .testBit _ _
  | .bit_4_e => .testBit _ _
  | .bit_4_h => .testBit _ _
  | .bit_4_l => .testBit _ _
  | .bit_4_mhl => .testBit _ _
  | .bit_4_a => .testBit _ _
  | .bit_5_b => .testBit _ _
  | .bit_5_c => .testBit _ _
  | .bit_5_d => .testBit _ _
  | .bit_5_e => .testBit _ _
  | .bit_5_h => .testBit _ _
  | .bit_5_l => .testBit _ _
  | .bit_5_mhl => .testBit _ _
  | .bit_5_a => .testBit _ _
  | .bit_6_b => .testBit _ _
  | .bit_6_c => .testBit _ _
  | .bit_6_d => .testBit _ _
  | .bit_6_e => .testBit _ _
  | .bit_6_h => .testBit _ _
  | .bit_6_l => .testBit _ _
  | .bit_6_mhl => .testBit _ _
  | .bit_6_a => .testBit _ _
  | .bit_7_b => .testBit _ _
  | .bit_7_c => .testBit _ _
  | .bit_7_d => .testBit _ _
  | .bit_7_e => .testBit _ _
  | .bit_7_h => .testBit _ _
  | .bit_7_l => .testBit _ _
  | .bit_7_mhl => .testBit _ _
  | .bit_7_a => .testBit _ _
  | .res_0_b => .resetBit _ _
  | .res_0_c => .resetBit _ _
  | .res_0_d => .resetBit _ _
  | .res_0_e => .resetBit _ _
  | .res_0_h => .resetBit _ _
  | .res_0_l => .resetBit _ _
  | .res_0_mhl => .resetBit _ _
  | .res_0_a => .resetBit _ _
  | .res_1_b => .resetBit _ _
  | .res_1_c => .resetBit _ _
  | .res_1_d => .resetBit _ _
  | .res_1_e => .resetBit _ _
  | .res_1_h => .resetBit _ _
  | .res_1_l => .resetBit _ _
  | .res_1_mhl => .resetBit _ _
  | .res_1_a => .resetBit _ _
  | .res_2_b => .resetBit _ _
  | .res_2_c => .resetBit _ _
  | .res_2_d => .resetBit _ _
  | .res_2_e => .resetBit _ _
  | .res_2_h => .resetBit _ _
  | .res_2_l => .resetBit _ _
  | .res_2_mhl => .resetBit _ _
  | .res_2_a => .resetBit _ _
  | .res_3_b => .resetBit _ _
  | .res_3_c => .resetBit _ _
  | .res_3_d => .resetBit _ _
  | .res_3_e => .resetBit _ _
  | .res_3_h => .resetBit _ _
  | .res_3_l => .resetBit _ _
  | .res_3_mhl => .resetBit _ _
  | .res_3_a => .resetBit _ _
  | .res_4_b => .resetBit _ _
  | .res_4_c => .resetBit _ _
  | .res_4_d => .resetBit _ _
  | .res_4_e => .resetBit _ _
  | .res_4_h => .resetBit _ _
  | .res_4_l => .resetBit _ _
  | .res_4_mhl => .resetBit _ _
  | .res_4_a => .resetBit _ _
  | .res_5_b => .resetBit _ _
  | .res_5_c => .resetBit _ _
  | .res_5_d => .resetBit _ _
  | .res_5_e => .resetBit _ _
  | .res_5_h => .resetBit _ _
  | .res_5_l => .resetBit _ _
  | .res_5_mhl => .resetBit _ _
  | .res_5_a => .resetBit _ _
  | .res_6_b => .resetBit _ _
  | .res_6_c => .resetBit _ _
  | .res_6_d => .resetBit _ _
  | .res_6_e => .resetBit _ _
  | .res_6_h => .resetBit _ _
  | .res_6_l => .resetBit _ _
  | .res_6_mhl => .resetBit _ _
  | .res_6_a => .resetBit _ _
  | .res_7_b => .resetBit _ _
  | .res_7_c => .resetBit _ _
  | .res_7_d => .resetBit _ _
  | .res_7_e => .resetBit _ _
  | .res_7_h => .resetBit _ _
  | .res_7_l => .resetBit _ _
  | .res_7_mhl => .resetBit _ _
  | .res_7_a => .resetBit _ _
  | .set_0_b => .setBit _ _
  | .set_0_c => .setBit _ _
  | .set_0_d => .setBit _ _
  | .set_0_e => .setBit _ _
  | .set_0_h => .setBit _ _
  | .set_0_l => .setBit _ _
  | .set_0_mhl => .setBit _ _
  | .set_0_a => .setBit _ _
  | .set_1_b => .setBit _ _
  | .set_1_c => .setBit _ _
  | .set_1_d => .setBit _ _
  | .set_1_e => .setBit _ _
  | .set_1_h => .setBit _ _
  | .set_1_l => .setBit _ _
  | .set_1_mhl => .setBit _ _
  | .set_1_a => .setBit _ _
  | .set_2_b => .setBit _ _
  | .set_2_c => .setBit _ _
  | .set_2_d => .setBit _ _
  | .set_2_e => .setBit _ _
  | .set_2_h => .setBit _ _
  | .set_2_l => .setBit _ _
  | .set_2_mhl => .setBit _ _
  | .set_2_a => .setBit _ _
  | .set_3_b => .setBit _ _
  | .set_3_c => .setBit _ _
  | .set_3_d => .setBit _ _
  | .set_3_e => .setBit _ _
  | .set_3_h => .setBit _ _
  | .set_3_l => .setBit _ _
  | .set_3_mhl => .setBit _ _
  | .set_3_a => .setBit _ _
  | .set_4_b => .setBit _ _
  | .set_4_c => .setBit _ _
  | .set_4_d => .setBit _ _
  | .set_4_e => .setBit _ _
  | .set_4_h => .setBit _ _
  | .set_4_l => .setBit _ _
  | .set_4_mhl => .setBit _ _
  | .set_4_a => .setBit _ _
  | .set_5_b => .setBit _ _
  | .set_5_c => .setBit _ _
  | .set_5_d => .setBit _ _
  | .set_5_e => .setBit _ _
  | .set_5_h => .setBit _ _
  | .set_5_l => .setBit _ _
  | .set_5_mhl => .setBit _ _
  | .set_5_a => .setBit _ _
  | .set_6_b => .setBit _ _
  | .set_6_c => .setBit _ _
  | .set_6_d => .setBit _ _
  | .set_6_e => .setBit _ _
  | .set_6_h => .setBit _ _
  | .set_6_l => .setBit _ _
  | .set_6_mhl => .setBit _ _
  | .set_6_a => .setBit _ _
  | .set_7_b => .setBit _ _
  | .set_7_c => .setBit _ _
  | .set_7_d => .setBit _ _
  | .set_7_e => .setBit _ _
  | .set_7_h => .setBit _ _
  | .set_7_l => .setBit _ _
  | .set_7_mhl => .setBit _ _
  | .set_7_a => .setBit _ _

end Sys2Proof.Machine
end

