-- ==== Sys2Proof/Laws/Exec.lean ====
section
/-! SUPPORT. What each shared operation of the meanings answers, said once: `op … s = .next t` exactly when `t` is the
state below. All but HALT's always complete. -/

namespace Sys2Proof.Machine

@[simp] theorem ld8_next {s t : State} {d : Target8} {v : Byte} : ld8 d v s = .next t ↔ t = s.writeTarget d v := by
  simp [ld8, eq_comm]
@[simp] theorem store8_next {s t : State} {a : Word} {v : Byte} : store8 a v s = .next t ↔ t = s.memWrite a v := by
  simp [store8, eq_comm]
@[simp] theorem store16_next {s t : State} {a v : Word} : store16 a v s = .next t ↔ t = s.memWrite16 a v := by
  simp [store16, eq_comm]
@[simp] theorem ld16_next {s t : State} {p : Pair} {v : Word} : ld16 p v s = .next t ↔ t = s.setPair p v := by
  simp [ld16, eq_comm]
@[simp] theorem storeStep_next {s t : State} {w : Word} : storeStep w s = .next t ↔ t = (s.memWrite s.hl s.regs.a).setHl w := by
  simp [storeStep, eq_comm]
@[simp] theorem loadStep_next {s t : State} {w : Word} : loadStep w s = .next t ↔ t = (s.setA (s.memRead s.hl)).setHl w := by
  simp [loadStep, eq_comm]
@[simp] theorem aluA_next {s t : State} {op : AluOp} {v : Byte} : aluA op v s = .next t ↔ t = (s.setA (aluResult s.params.adcSbcMode op s.regs.a v s.flagC).1).setFlags
   (aluResult s.params.adcSbcMode op s.regs.a v s.flagC).2 := by
  simp [aluA, eq_comm]
@[simp] theorem inc8_next {s t : State} {d : Target8} : inc8 d s = .next t ↔ t = (s.writeTarget d (s.readTarget d + 1)).setFlags (incFlags (s.readTarget d) s.flags) := by
  simp [inc8, eq_comm]
@[simp] theorem dec8_next {s t : State} {d : Target8} : dec8 d s = .next t ↔ t = (s.writeTarget d (s.readTarget d - 1)).setFlags (decFlags (s.readTarget d) s.flags) := by
  simp [dec8, eq_comm]
@[simp] theorem decimalAdjust_next {s t : State} : decimalAdjust s = .next t ↔ t = (s.setA (daaResult s.regs.a s.flags).1).setFlags (daaResult s.regs.a s.flags).2 := by
  simp [decimalAdjust, eq_comm]
@[simp] theorem complementA_next {s t : State} : complementA s = .next t ↔ t = (s.setA (s.regs.a ^^^ 0xFF)).setFlags { s.flags with n := true, h := true } := by
  simp [complementA, eq_comm]
@[simp] theorem writeCarry_next {s t : State} {c : Bool} : writeCarry c s = .next t ↔ t = s.setFlags { s.flags with n := false, h := false, c := c } := by
  simp [writeCarry, eq_comm]
@[simp] theorem addHl_next {s t : State} {v : Word} : addHl v s = .next t ↔ t = (s.setHl (s.hl + v)).setFlags (addHlFlags s.hl v s.flags) := by
  simp [addHl, eq_comm]
@[simp] theorem addSpTo_next {s t : State} {p : Pair} {e : Byte} : addSpTo p e s = .next t ↔ t = (s.setPair p (spAddE8 s.sp e).1).setFlags (spAddE8 s.sp e).2 := by
  simp [addSpTo, eq_comm]
@[simp] theorem rotA_next {s t : State} {op : RotOp} : rotA op s = .next t ↔ t = (s.setA (rotResult op s.regs.a s.flagC).1).setFlags
   { z := false, n := false, h := false, c := (rotResult op s.regs.a s.flagC).2 } := by
  simp [rotA, eq_comm]
@[simp] theorem rot_next {s t : State} {op : RotOp} {d : Target8} : rot op d s = .next t ↔ t = (s.writeTarget d (rotResult op (s.readTarget d) s.flagC).1).setFlags
   (rotFlags (rotResult op (s.readTarget d) s.flagC).1 (rotResult op (s.readTarget d) s.flagC).2) := by
  simp [rot, eq_comm]
@[simp] theorem testBit_next {s t : State} {b : Nat} {d : Target8} : testBit b d s = .next t ↔ t = s.setFlags (bitFlags (s.readTarget d) b s.flags) := by
  simp [testBit, eq_comm]
@[simp] theorem resetBit_next {s t : State} {b : Nat} {d : Target8} : resetBit b d s = .next t ↔ t = s.writeTarget d (s.readTarget d &&& ~~~(bitMask b)) := by
  simp [resetBit, eq_comm]
@[simp] theorem setBit_next {s t : State} {b : Nat} {d : Target8} : setBit b d s = .next t ↔ t = s.writeTarget d (s.readTarget d ||| bitMask b) := by
  simp [setBit, eq_comm]
@[simp] theorem jump_next {s t : State} {a : Word} : jump a s = .next t ↔ t = { s with pc := a } := by
  simp [jump, eq_comm]
@[simp] theorem jumpIf_next {s t : State} {taken : Bool} {a : Word} : jumpIf taken a s = .next t ↔ t = if taken then { s with pc := a } else s := by
  cases taken <;> simp [jumpIf, jump, eq_comm]
@[simp] theorem call_next {s t : State} {a : Word} : call a s = .next t ↔ t = { s.push16 s.pc with pc := a } := by
  simp [call, eq_comm]
@[simp] theorem callIf_next {s t : State} {taken : Bool} {a : Word} : callIf taken a s = .next t ↔ t = if taken then { s.push16 s.pc with pc := a } else s := by
  cases taken <;> simp [callIf, call, eq_comm]
@[simp] theorem ret_next {s t : State} : ret s = .next t ↔ t = { s.pop16 with pc := s.pop16Value } := by
  simp [ret, eq_comm]
@[simp] theorem retIf_next {s t : State} {taken : Bool} : retIf taken s = .next t ↔ t = if taken then { s.pop16 with pc := s.pop16Value } else s := by
  cases taken <;> simp [retIf, ret, eq_comm]
@[simp] theorem push_next {s t : State} {p : StackPair} : push p s = .next t ↔ t = s.push16 (s.getStackPair p) := by
  simp [push, eq_comm]
@[simp] theorem pop_next {s t : State} {p : StackPair} : pop p s = .next t ↔ t = s.pop16.setStackPair p s.pop16Value := by
  simp [pop, eq_comm]

/-- HALT's body is the one that may not complete (47_system.md R189). -/
theorem haltBody_next {s t : State} : haltBody s = .next t ↔
    ¬(s.ime = false ∧ s.imeScheduled = false ∧ s.snapshot ≠ 0) ∧ t = { s with halted := true } := by
  unfold haltBody; split
  · exact ⟨fun h => by (cases h), fun h => absurd ‹_› h.1⟩
  · exact ⟨fun h => by (cases h; exact ⟨‹_›, rfl⟩), fun h => by rw [h.2]⟩

/-- CB's body is a rotate, a bit test, a bit reset or a bit set of one target (30_encoding.md R53). -/
theorem cbBody_cases (la : Byte) (s : State) :
    (∃ op d, cbBody la s = rot op d s) ∨ (∃ b d, cbBody la s = testBit b d s) ∨ (∃ b d, cbBody la s = resetBit b d s) ∨
    (∃ b d, cbBody la s = setBit b d s) := by
  unfold cbBody; dsimp only; split
  · exact .inl ⟨_, _, rfl⟩
  · exact .inr (.inl ⟨_, _, rfl⟩)
  · exact .inr (.inr (.inl ⟨_, _, rfl⟩))
  · exact .inr (.inr (.inr ⟨_, _, rfl⟩))

end Sys2Proof.Machine
end

