-- ==== Sys2Proof/Laws/State.lean ====
section
/-! SUPPORT. One lemma per field of State per update, so that no proof unfolds a record update. -/

namespace Sys2Proof.Machine

/-! ## setA -/

@[simp] theorem State.setA_sp (s : State) (v : Byte) : (s.setA v).sp = s.sp := rfl
@[simp] theorem State.setA_pc (s : State) (v : Byte) : (s.setA v).pc = s.pc := rfl
@[simp] theorem State.setA_ime (s : State) (v : Byte) : (s.setA v).ime = s.ime := rfl
@[simp] theorem State.setA_imeScheduled (s : State) (v : Byte) : (s.setA v).imeScheduled = s.imeScheduled := rfl
@[simp] theorem State.setA_halted (s : State) (v : Byte) : (s.setA v).halted = s.halted := rfl
@[simp] theorem State.setA_timer (s : State) (v : Byte) : (s.setA v).timer = s.timer := rfl
@[simp] theorem State.setA_mem (s : State) (v : Byte) : (s.setA v).mem = s.mem := rfl
@[simp] theorem State.setA_params (s : State) (v : Byte) : (s.setA v).params = s.params := rfl
@[simp] theorem State.setA_regs_a (s : State) (v : Byte) : (s.setA v).regs.a = v := rfl
@[simp] theorem State.setA_regs_f (s : State) (v : Byte) : (s.setA v).regs.f = s.regs.f := rfl
@[simp] theorem State.setA_regs_b (s : State) (v : Byte) : (s.setA v).regs.b = s.regs.b := rfl
@[simp] theorem State.setA_regs_c (s : State) (v : Byte) : (s.setA v).regs.c = s.regs.c := rfl
@[simp] theorem State.setA_regs_d (s : State) (v : Byte) : (s.setA v).regs.d = s.regs.d := rfl
@[simp] theorem State.setA_regs_e (s : State) (v : Byte) : (s.setA v).regs.e = s.regs.e := rfl
@[simp] theorem State.setA_regs_h (s : State) (v : Byte) : (s.setA v).regs.h = s.regs.h := rfl
@[simp] theorem State.setA_regs_l (s : State) (v : Byte) : (s.setA v).regs.l = s.regs.l := rfl

/-! ## setBc -/

@[simp] theorem State.setBc_sp (s : State) (v : Word) : (s.setBc v).sp = s.sp := rfl
@[simp] theorem State.setBc_pc (s : State) (v : Word) : (s.setBc v).pc = s.pc := rfl
@[simp] theorem State.setBc_ime (s : State) (v : Word) : (s.setBc v).ime = s.ime := rfl
@[simp] theorem State.setBc_imeScheduled (s : State) (v : Word) : (s.setBc v).imeScheduled = s.imeScheduled := rfl
@[simp] theorem State.setBc_halted (s : State) (v : Word) : (s.setBc v).halted = s.halted := rfl
@[simp] theorem State.setBc_timer (s : State) (v : Word) : (s.setBc v).timer = s.timer := rfl
@[simp] theorem State.setBc_mem (s : State) (v : Word) : (s.setBc v).mem = s.mem := rfl
@[simp] theorem State.setBc_params (s : State) (v : Word) : (s.setBc v).params = s.params := rfl
@[simp] theorem State.setBc_regs_a (s : State) (v : Word) : (s.setBc v).regs.a = s.regs.a := rfl
@[simp] theorem State.setBc_regs_f (s : State) (v : Word) : (s.setBc v).regs.f = s.regs.f := rfl
@[simp] theorem State.setBc_regs_b (s : State) (v : Word) : (s.setBc v).regs.b = v.hi := rfl
@[simp] theorem State.setBc_regs_c (s : State) (v : Word) : (s.setBc v).regs.c = v.lo := rfl
@[simp] theorem State.setBc_regs_d (s : State) (v : Word) : (s.setBc v).regs.d = s.regs.d := rfl
@[simp] theorem State.setBc_regs_e (s : State) (v : Word) : (s.setBc v).regs.e = s.regs.e := rfl
@[simp] theorem State.setBc_regs_h (s : State) (v : Word) : (s.setBc v).regs.h = s.regs.h := rfl
@[simp] theorem State.setBc_regs_l (s : State) (v : Word) : (s.setBc v).regs.l = s.regs.l := rfl

/-! ## setDe -/

@[simp] theorem State.setDe_sp (s : State) (v : Word) : (s.setDe v).sp = s.sp := rfl
@[simp] theorem State.setDe_pc (s : State) (v : Word) : (s.setDe v).pc = s.pc := rfl
@[simp] theorem State.setDe_ime (s : State) (v : Word) : (s.setDe v).ime = s.ime := rfl
@[simp] theorem State.setDe_imeScheduled (s : State) (v : Word) : (s.setDe v).imeScheduled = s.imeScheduled := rfl
@[simp] theorem State.setDe_halted (s : State) (v : Word) : (s.setDe v).halted = s.halted := rfl
@[simp] theorem State.setDe_timer (s : State) (v : Word) : (s.setDe v).timer = s.timer := rfl
@[simp] theorem State.setDe_mem (s : State) (v : Word) : (s.setDe v).mem = s.mem := rfl
@[simp] theorem State.setDe_params (s : State) (v : Word) : (s.setDe v).params = s.params := rfl
@[simp] theorem State.setDe_regs_a (s : State) (v : Word) : (s.setDe v).regs.a = s.regs.a := rfl
@[simp] theorem State.setDe_regs_f (s : State) (v : Word) : (s.setDe v).regs.f = s.regs.f := rfl
@[simp] theorem State.setDe_regs_b (s : State) (v : Word) : (s.setDe v).regs.b = s.regs.b := rfl
@[simp] theorem State.setDe_regs_c (s : State) (v : Word) : (s.setDe v).regs.c = s.regs.c := rfl
@[simp] theorem State.setDe_regs_d (s : State) (v : Word) : (s.setDe v).regs.d = v.hi := rfl
@[simp] theorem State.setDe_regs_e (s : State) (v : Word) : (s.setDe v).regs.e = v.lo := rfl
@[simp] theorem State.setDe_regs_h (s : State) (v : Word) : (s.setDe v).regs.h = s.regs.h := rfl
@[simp] theorem State.setDe_regs_l (s : State) (v : Word) : (s.setDe v).regs.l = s.regs.l := rfl

/-! ## setHl -/

@[simp] theorem State.setHl_sp (s : State) (v : Word) : (s.setHl v).sp = s.sp := rfl
@[simp] theorem State.setHl_pc (s : State) (v : Word) : (s.setHl v).pc = s.pc := rfl
@[simp] theorem State.setHl_ime (s : State) (v : Word) : (s.setHl v).ime = s.ime := rfl
@[simp] theorem State.setHl_imeScheduled (s : State) (v : Word) : (s.setHl v).imeScheduled = s.imeScheduled := rfl
@[simp] theorem State.setHl_halted (s : State) (v : Word) : (s.setHl v).halted = s.halted := rfl
@[simp] theorem State.setHl_timer (s : State) (v : Word) : (s.setHl v).timer = s.timer := rfl
@[simp] theorem State.setHl_mem (s : State) (v : Word) : (s.setHl v).mem = s.mem := rfl
@[simp] theorem State.setHl_params (s : State) (v : Word) : (s.setHl v).params = s.params := rfl
@[simp] theorem State.setHl_regs_a (s : State) (v : Word) : (s.setHl v).regs.a = s.regs.a := rfl
@[simp] theorem State.setHl_regs_f (s : State) (v : Word) : (s.setHl v).regs.f = s.regs.f := rfl
@[simp] theorem State.setHl_regs_b (s : State) (v : Word) : (s.setHl v).regs.b = s.regs.b := rfl
@[simp] theorem State.setHl_regs_c (s : State) (v : Word) : (s.setHl v).regs.c = s.regs.c := rfl
@[simp] theorem State.setHl_regs_d (s : State) (v : Word) : (s.setHl v).regs.d = s.regs.d := rfl
@[simp] theorem State.setHl_regs_e (s : State) (v : Word) : (s.setHl v).regs.e = s.regs.e := rfl
@[simp] theorem State.setHl_regs_h (s : State) (v : Word) : (s.setHl v).regs.h = v.hi := rfl
@[simp] theorem State.setHl_regs_l (s : State) (v : Word) : (s.setHl v).regs.l = v.lo := rfl

/-! ## setAf -/

@[simp] theorem State.setAf_sp (s : State) (v : Word) : (s.setAf v).sp = s.sp := rfl
@[simp] theorem State.setAf_pc (s : State) (v : Word) : (s.setAf v).pc = s.pc := rfl
@[simp] theorem State.setAf_ime (s : State) (v : Word) : (s.setAf v).ime = s.ime := rfl
@[simp] theorem State.setAf_imeScheduled (s : State) (v : Word) : (s.setAf v).imeScheduled = s.imeScheduled := rfl
@[simp] theorem State.setAf_halted (s : State) (v : Word) : (s.setAf v).halted = s.halted := rfl
@[simp] theorem State.setAf_timer (s : State) (v : Word) : (s.setAf v).timer = s.timer := rfl
@[simp] theorem State.setAf_mem (s : State) (v : Word) : (s.setAf v).mem = s.mem := rfl
@[simp] theorem State.setAf_params (s : State) (v : Word) : (s.setAf v).params = s.params := rfl
@[simp] theorem State.setAf_regs_a (s : State) (v : Word) : (s.setAf v).regs.a = v.hi := rfl
@[simp] theorem State.setAf_regs_f (s : State) (v : Word) : (s.setAf v).regs.f = v.lo &&& 0xF0 := rfl
@[simp] theorem State.setAf_regs_b (s : State) (v : Word) : (s.setAf v).regs.b = s.regs.b := rfl
@[simp] theorem State.setAf_regs_c (s : State) (v : Word) : (s.setAf v).regs.c = s.regs.c := rfl
@[simp] theorem State.setAf_regs_d (s : State) (v : Word) : (s.setAf v).regs.d = s.regs.d := rfl
@[simp] theorem State.setAf_regs_e (s : State) (v : Word) : (s.setAf v).regs.e = s.regs.e := rfl
@[simp] theorem State.setAf_regs_h (s : State) (v : Word) : (s.setAf v).regs.h = s.regs.h := rfl
@[simp] theorem State.setAf_regs_l (s : State) (v : Word) : (s.setAf v).regs.l = s.regs.l := rfl

/-! ## setFlags -/

@[simp] theorem State.setFlags_sp (s : State) (fl : Flags) : (s.setFlags fl).sp = s.sp := rfl
@[simp] theorem State.setFlags_pc (s : State) (fl : Flags) : (s.setFlags fl).pc = s.pc := rfl
@[simp] theorem State.setFlags_ime (s : State) (fl : Flags) : (s.setFlags fl).ime = s.ime := rfl
@[simp] theorem State.setFlags_imeScheduled (s : State) (fl : Flags) : (s.setFlags fl).imeScheduled = s.imeScheduled := rfl
@[simp] theorem State.setFlags_halted (s : State) (fl : Flags) : (s.setFlags fl).halted = s.halted := rfl
@[simp] theorem State.setFlags_timer (s : State) (fl : Flags) : (s.setFlags fl).timer = s.timer := rfl
@[simp] theorem State.setFlags_mem (s : State) (fl : Flags) : (s.setFlags fl).mem = s.mem := rfl
@[simp] theorem State.setFlags_params (s : State) (fl : Flags) : (s.setFlags fl).params = s.params := rfl
@[simp] theorem State.setFlags_regs_a (s : State) (fl : Flags) : (s.setFlags fl).regs.a = s.regs.a := rfl
@[simp] theorem State.setFlags_regs_f (s : State) (fl : Flags) : (s.setFlags fl).regs.f = fl.toByte ||| (s.regs.f &&& 0x0F) := rfl
@[simp] theorem State.setFlags_regs_b (s : State) (fl : Flags) : (s.setFlags fl).regs.b = s.regs.b := rfl
@[simp] theorem State.setFlags_regs_c (s : State) (fl : Flags) : (s.setFlags fl).regs.c = s.regs.c := rfl
@[simp] theorem State.setFlags_regs_d (s : State) (fl : Flags) : (s.setFlags fl).regs.d = s.regs.d := rfl
@[simp] theorem State.setFlags_regs_e (s : State) (fl : Flags) : (s.setFlags fl).regs.e = s.regs.e := rfl
@[simp] theorem State.setFlags_regs_h (s : State) (fl : Flags) : (s.setFlags fl).regs.h = s.regs.h := rfl
@[simp] theorem State.setFlags_regs_l (s : State) (fl : Flags) : (s.setFlags fl).regs.l = s.regs.l := rfl

/-! ## setIf, pop16, advancePc -/

@[simp] theorem State.setIf_regs (s : State) (v : Byte) : (s.setIf v).regs = s.regs := rfl
@[simp] theorem State.setIf_sp (s : State) (v : Byte) : (s.setIf v).sp = s.sp := rfl
@[simp] theorem State.setIf_pc (s : State) (v : Byte) : (s.setIf v).pc = s.pc := rfl
@[simp] theorem State.setIf_ime (s : State) (v : Byte) : (s.setIf v).ime = s.ime := rfl
@[simp] theorem State.setIf_imeScheduled (s : State) (v : Byte) : (s.setIf v).imeScheduled = s.imeScheduled := rfl
@[simp] theorem State.setIf_halted (s : State) (v : Byte) : (s.setIf v).halted = s.halted := rfl
@[simp] theorem State.setIf_timer (s : State) (v : Byte) : (s.setIf v).timer = s.timer := rfl
@[simp] theorem State.setIf_params (s : State) (v : Byte) : (s.setIf v).params = s.params := rfl
@[simp] theorem State.setIf_mem (s : State) (v : Byte) : (s.setIf v).mem = s.mem.write 0xFF0F v := rfl
@[simp] theorem State.pop16_regs (s : State) : s.pop16.regs = s.regs := rfl
@[simp] theorem State.pop16_pc (s : State) : s.pop16.pc = s.pc := rfl
@[simp] theorem State.pop16_ime (s : State) : s.pop16.ime = s.ime := rfl
@[simp] theorem State.pop16_imeScheduled (s : State) : s.pop16.imeScheduled = s.imeScheduled := rfl
@[simp] theorem State.pop16_halted (s : State) : s.pop16.halted = s.halted := rfl
@[simp] theorem State.pop16_timer (s : State) : s.pop16.timer = s.timer := rfl
@[simp] theorem State.pop16_mem (s : State) : s.pop16.mem = s.mem := rfl
@[simp] theorem State.pop16_params (s : State) : s.pop16.params = s.params := rfl
@[simp] theorem State.pop16_sp (s : State) : s.pop16.sp = s.sp + 1 + 1 := rfl
@[simp] theorem State.advancePc_regs (s : State) (n : Nat) : (s.advancePc n).regs = s.regs := rfl
@[simp] theorem State.advancePc_sp (s : State) (n : Nat) : (s.advancePc n).sp = s.sp := rfl
@[simp] theorem State.advancePc_ime (s : State) (n : Nat) : (s.advancePc n).ime = s.ime := rfl
@[simp] theorem State.advancePc_imeScheduled (s : State) (n : Nat) : (s.advancePc n).imeScheduled = s.imeScheduled := rfl
@[simp] theorem State.advancePc_halted (s : State) (n : Nat) : (s.advancePc n).halted = s.halted := rfl
@[simp] theorem State.advancePc_timer (s : State) (n : Nat) : (s.advancePc n).timer = s.timer := rfl
@[simp] theorem State.advancePc_mem (s : State) (n : Nat) : (s.advancePc n).mem = s.mem := rfl
@[simp] theorem State.advancePc_params (s : State) (n : Nat) : (s.advancePc n).params = s.params := rfl
@[simp] theorem State.advancePc_pc (s : State) (n : Nat) : (s.advancePc n).pc = s.pc + BitVec.ofNat 16 n := rfl

/-! ## setReg, setPair, setStackPair -/

@[simp] theorem State.setReg_sp (s : State) (r : Reg8) (v : Byte) : (s.setReg r v).sp = s.sp := by cases r <;> rfl
@[simp] theorem State.setReg_pc (s : State) (r : Reg8) (v : Byte) : (s.setReg r v).pc = s.pc := by cases r <;> rfl
@[simp] theorem State.setReg_ime (s : State) (r : Reg8) (v : Byte) : (s.setReg r v).ime = s.ime := by cases r <;> rfl
@[simp] theorem State.setReg_imeScheduled (s : State) (r : Reg8) (v : Byte) : (s.setReg r v).imeScheduled = s.imeScheduled := by cases r <;> rfl
@[simp] theorem State.setReg_halted (s : State) (r : Reg8) (v : Byte) : (s.setReg r v).halted = s.halted := by cases r <;> rfl
@[simp] theorem State.setReg_timer (s : State) (r : Reg8) (v : Byte) : (s.setReg r v).timer = s.timer := by cases r <;> rfl
@[simp] theorem State.setReg_mem (s : State) (r : Reg8) (v : Byte) : (s.setReg r v).mem = s.mem := by cases r <;> rfl
@[simp] theorem State.setReg_params (s : State) (r : Reg8) (v : Byte) : (s.setReg r v).params = s.params := by cases r <;> rfl
@[simp] theorem State.setReg_regs_f (s : State) (r : Reg8) (v : Byte) : (s.setReg r v).regs.f = s.regs.f := by cases r <;> rfl
@[simp] theorem State.setPair_pc (s : State) (p : Pair) (v : Word) : (s.setPair p v).pc = s.pc := by cases p <;> rfl
@[simp] theorem State.setPair_ime (s : State) (p : Pair) (v : Word) : (s.setPair p v).ime = s.ime := by cases p <;> rfl
@[simp] theorem State.setPair_imeScheduled (s : State) (p : Pair) (v : Word) : (s.setPair p v).imeScheduled = s.imeScheduled := by cases p <;> rfl
@[simp] theorem State.setPair_halted (s : State) (p : Pair) (v : Word) : (s.setPair p v).halted = s.halted := by cases p <;> rfl
@[simp] theorem State.setPair_timer (s : State) (p : Pair) (v : Word) : (s.setPair p v).timer = s.timer := by cases p <;> rfl
@[simp] theorem State.setPair_mem (s : State) (p : Pair) (v : Word) : (s.setPair p v).mem = s.mem := by cases p <;> rfl
@[simp] theorem State.setPair_params (s : State) (p : Pair) (v : Word) : (s.setPair p v).params = s.params := by cases p <;> rfl
@[simp] theorem State.setPair_regs_f (s : State) (p : Pair) (v : Word) : (s.setPair p v).regs.f = s.regs.f := by cases p <;> rfl
@[simp] theorem State.setPair_sp_eq (s : State) (v : Word) : s.setPair .sp v = { s with sp := v } := rfl
@[simp] theorem State.setStackPair_sp (s : State) (p : StackPair) (v : Word) : (s.setStackPair p v).sp = s.sp := by cases p <;> rfl
@[simp] theorem State.setStackPair_pc (s : State) (p : StackPair) (v : Word) : (s.setStackPair p v).pc = s.pc := by cases p <;> rfl
@[simp] theorem State.setStackPair_ime (s : State) (p : StackPair) (v : Word) : (s.setStackPair p v).ime = s.ime := by cases p <;> rfl
@[simp] theorem State.setStackPair_imeScheduled (s : State) (p : StackPair) (v : Word) : (s.setStackPair p v).imeScheduled = s.imeScheduled := by cases p <;> rfl
@[simp] theorem State.setStackPair_halted (s : State) (p : StackPair) (v : Word) : (s.setStackPair p v).halted = s.halted := by cases p <;> rfl
@[simp] theorem State.setStackPair_timer (s : State) (p : StackPair) (v : Word) : (s.setStackPair p v).timer = s.timer := by cases p <;> rfl
@[simp] theorem State.setStackPair_mem (s : State) (p : StackPair) (v : Word) : (s.setStackPair p v).mem = s.mem := by cases p <;> rfl
@[simp] theorem State.setStackPair_params (s : State) (p : StackPair) (v : Word) : (s.setStackPair p v).params = s.params := by cases p <;> rfl

end Sys2Proof.Machine
end

