-- ==== Sys2Proof/Laws/Memory.lean ====
section
/-! SUPPORT. The byte array: a read after a write, and the canonical form, which every memory operation keeps
(log entry 4). -/

namespace Sys2Proof.Machine

/-! ## A read after a write -/

/-- Below the first cell of a canonical list nothing is listed. -/
theorem Memory.read_of_lt {m : Memory} {low a : Nat} (h : Memory.wfFrom low m = true) (ha : a < low) :
    m.read a = Memory.unlisted := by
  induction m generalizing low with
  | nil => rfl
  | cons c m ih =>
    obtain ⟨k, v⟩ := c
    simp only [Memory.wfFrom, Bool.and_eq_true, decide_eq_true_eq] at h
    obtain ⟨⟨⟨hk, -⟩, -⟩, hm⟩ := h
    rw [Memory.read, if_neg (by omega)]
    exact ih hm (by omega)

/-- A write gives the byte at its address and leaves every other, in a canonical array. -/
theorem Memory.read_write_from {m : Memory} {low : Nat} (h : Memory.wfFrom low m = true) (a b : Nat) (v : Byte) :
    (m.write a v).read b = if b = a then v else m.read b := by
  induction m generalizing low with
  | nil =>
    by_cases hv : v = Memory.unlisted <;> by_cases hb : b = a <;> simp [Memory.write, Memory.read, hv, hb]
  | cons c m ih =>
    obtain ⟨k, w⟩ := c
    simp only [Memory.wfFrom, Bool.and_eq_true, decide_eq_true_eq] at h
    obtain ⟨⟨⟨hk, -⟩, -⟩, hm⟩ := h
    rw [Memory.write]
    by_cases h1 : a < k
    · by_cases hv : v = Memory.unlisted
      · rw [if_pos h1, if_pos hv]
        by_cases hb : b = a
        · rw [if_pos hb, hb, Memory.read, if_neg (by omega), Memory.read_of_lt hm (by omega), hv]
        · rw [if_neg hb]
      · rw [if_pos h1, if_neg hv, Memory.read]
    · by_cases h2 : a = k
      · by_cases hv : v = Memory.unlisted
        · rw [if_neg h1, if_pos h2, if_pos hv, Memory.read]
          by_cases hb : b = a
          · rw [if_pos hb, hb, Memory.read_of_lt hm (by omega), hv]
          · rw [if_neg hb, if_neg (by omega)]
        · rw [if_neg h1, if_pos h2, if_neg hv, Memory.read, Memory.read, ← h2]
          by_cases hb : b = a <;> simp [hb]
      · rw [if_neg h1, if_neg h2, Memory.read, Memory.read, ih hm]
        by_cases hb : b = k
        · simp [hb, Ne.symm h2]
        · simp [hb]

/-- `Memory.read_write_from` for a whole array. -/
theorem Memory.read_write {m : Memory} (h : m.wf = true) (a b : Nat) (v : Byte) :
    (m.write a v).read b = if b = a then v else m.read b := Memory.read_write_from h a b v

/-- A write leaves the bytes at other addresses, in any list. -/
theorem Memory.read_write_ne (m : Memory) {a b : Nat} (v : Byte) (hb : b ≠ a) : (m.write a v).read b = m.read b := by
  induction m with
  | nil => by_cases hv : v = Memory.unlisted <;> simp [Memory.write, Memory.read, hv, hb]
  | cons c m ih =>
    obtain ⟨k, w⟩ := c
    rw [Memory.write]
    by_cases hv : v = Memory.unlisted <;> repeat' split
    all_goals simp_all [Memory.read]

/-! ## The canonical form -/

/-- A write keeps the canonical form and the lower bound of the addresses. -/
theorem Memory.wfFrom_write {m : Memory} {low : Nat} (h : Memory.wfFrom low m = true) (a : Nat) (v : Byte)
    (hl : low ≤ a) (ha : a < 65536) : Memory.wfFrom low (m.write a v) = true := by
  induction m generalizing low with
  | nil => by_cases hv : v = Memory.unlisted <;> simp [Memory.write, Memory.wfFrom, hv, hl, ha]
  | cons c m ih =>
    obtain ⟨k, w⟩ := c
    have h' := h
    simp only [Memory.wfFrom, Bool.and_eq_true, decide_eq_true_eq] at h'
    obtain ⟨⟨⟨hk, hk'⟩, hw⟩, hm⟩ := h'
    have hlow : ∀ {l l' : Nat} {n : Memory}, l ≤ l' → Memory.wfFrom l' n = true → Memory.wfFrom l n = true := by
      intro l l' n hll hn
      cases n with
      | nil => rfl
      | cons d n =>
        simp only [Memory.wfFrom, Bool.and_eq_true, decide_eq_true_eq] at hn ⊢
        exact ⟨⟨⟨Nat.le_trans hll hn.1.1.1, hn.1.1.2⟩, hn.1.2⟩, hn.2⟩
    rw [Memory.write]
    by_cases h1 : a < k
    · by_cases hv : v = Memory.unlisted
      · rw [if_pos h1, if_pos hv]; exact h
      · rw [if_pos h1, if_neg hv]
        simp only [Memory.wfFrom, Bool.and_eq_true, decide_eq_true_eq]
        exact ⟨⟨⟨hl, ha⟩, hv⟩, ⟨⟨by omega, hk'⟩, hw⟩, hm⟩
    · by_cases h2 : a = k
      · by_cases hv : v = Memory.unlisted
        · rw [if_neg h1, if_pos h2, if_pos hv]; exact hlow (by omega) hm
        · rw [if_neg h1, if_pos h2, if_neg hv]
          simp only [Memory.wfFrom, Bool.and_eq_true, decide_eq_true_eq]
          exact ⟨⟨⟨hl, ha⟩, hv⟩, by rw [h2]; exact hm⟩
      · rw [if_neg h1, if_neg h2]
        simp only [Memory.wfFrom, Bool.and_eq_true, decide_eq_true_eq]
        exact ⟨⟨⟨hk, hk'⟩, hw⟩, ih hm (by omega)⟩

/-- A write at a 16-bit address keeps the canonical form. -/
theorem Memory.wf_write {m : Memory} (h : m.wf = true) (a : Word) (v : Byte) : (m.write a.toNat v).wf = true :=
  Memory.wfFrom_write h a.toNat v (Nat.zero_le _) a.isLt

/-- The array of a constructed state, `State.reset` with it, lists nothing. -/
theorem State.construct_mem_wf (p : Params) (pc : Word) (r : Regs) : (State.construct p pc r).mem.wf = true := rfl

theorem State.memWrite_wf {s : State} (h : s.mem.wf = true) (a : Word) (v : Byte) : (s.memWrite a v).mem.wf = true := by
  unfold State.memWrite
  repeat' split
  all_goals first | exact h | exact Memory.wf_write h a v

theorem State.memWrite16_wf {s : State} (h : s.mem.wf = true) (a v : Word) : (s.memWrite16 a v).mem.wf = true :=
  State.memWrite_wf (State.memWrite_wf h _ _) _ _

theorem State.setIf_wf {s : State} (h : s.mem.wf = true) (v : Byte) : (s.setIf v).mem.wf = true :=
  Memory.wf_write h addrIf v

theorem State.writeTarget_wf {s : State} (h : s.mem.wf = true) (t : Target8) (v : Byte) :
    (s.writeTarget t v).mem.wf = true := by
  cases t with
  | reg r => simpa [State.writeTarget] using h
  | mhl => exact State.memWrite_wf h _ _

theorem State.push16_wf {s : State} (h : s.mem.wf = true) (v : Word) : (s.push16 v).mem.wf = true := by
  apply State.memWrite_wf
  exact State.memWrite_wf (s := { s with sp := s.sp - 1 }) h _ _

theorem State.reportCycles_wf {s : State} (h : s.mem.wf = true) (c : Nat) : (s.reportCycles c).mem.wf = true := by
  unfold State.reportCycles
  dsimp only
  split
  · exact State.setIf_wf (s := { s with timer := (s.timer.advance c).1 }) h _
  · exact h

theorem State.takeInterrupt_wf {s : State} (h : s.mem.wf = true) (i : Source) : (s.takeInterrupt i).mem.wf = true :=
  State.reportCycles_wf (s := { s.push16 s.pc with
    pc := i.vector, ime := false, imeScheduled := false, halted := false }) (State.push16_wf h _) _

theorem State.interruptCheck_wf {s : State} (h : s.mem.wf = true) : s.interruptCheck.mem.wf = true := by
  unfold State.interruptCheck
  split
  · split
    · exact State.takeInterrupt_wf (State.setIf_wf h _) _
    · exact State.setIf_wf h _
  · exact h

theorem State.stepTail_wf {s : State} (h : s.mem.wf = true) (sched0 : Bool) : (s.stepTail sched0).mem.wf = true := by
  apply State.interruptCheck_wf
  unfold State.wake State.applyDelayedIme
  split <;> split <;> exact h

theorem State.complete_wf {s : State} (h : s.mem.wf = true) (sched0 : Bool) (c : Nat) :
    (s.complete sched0 c).mem.wf = true := State.stepTail_wf (State.reportCycles_wf h c) sched0

theorem State.hostLoad_wf {s : State} (h : s.mem.wf = true) (a : Word) (bs : List Byte) :
    (State.hostLoad a bs s).mem.wf = true := by
  induction bs generalizing a s with
  | nil => exact h
  | cons v bs ih => exact ih (State.memWrite_wf h a v) (a + 1)

theorem State.poke_wf {s : State} (h : s.mem.wf = true) (a : Word) (v : Byte) : (s.poke a v).mem.wf = true := by
  unfold State.poke
  split
  · exact h
  · exact State.memWrite_wf h a v

theorem State.withFetchWord_wf {s : State} (h : s.mem.wf = true) (nbits w : Nat) :
    (s.withFetchWord nbits w).mem.wf = true :=
  State.poke_wf (State.poke_wf (State.poke_wf (s := { s with halted := false }) h _ _) _ _) _ _

end Sys2Proof.Machine
end

