-- ==== Sys2Proof/Laws/Ops.lean ====
section
/-! SUPPORT. What each named operation of Machine/Ops.lean and Machine/Operands.lean leaves as it was. -/

namespace Sys2Proof.Machine

/-! ## Byte writes -/

@[simp] theorem State.memWrite_regs (s : State) (a : Word) (v : Byte) : (s.memWrite a v).regs = s.regs := by
  unfold State.memWrite; repeat' split
  all_goals rfl
@[simp] theorem State.memWrite_sp (s : State) (a : Word) (v : Byte) : (s.memWrite a v).sp = s.sp := by
  unfold State.memWrite; repeat' split
  all_goals rfl
@[simp] theorem State.memWrite_pc (s : State) (a : Word) (v : Byte) : (s.memWrite a v).pc = s.pc := by
  unfold State.memWrite; repeat' split
  all_goals rfl
@[simp] theorem State.memWrite_ime (s : State) (a : Word) (v : Byte) : (s.memWrite a v).ime = s.ime := by
  unfold State.memWrite; repeat' split
  all_goals rfl
@[simp] theorem State.memWrite_imeScheduled (s : State) (a : Word) (v : Byte) : (s.memWrite a v).imeScheduled = s.imeScheduled := by
  unfold State.memWrite; repeat' split
  all_goals rfl
@[simp] theorem State.memWrite_halted (s : State) (a : Word) (v : Byte) : (s.memWrite a v).halted = s.halted := by
  unfold State.memWrite; repeat' split
  all_goals rfl
@[simp] theorem State.memWrite_params (s : State) (a : Word) (v : Byte) : (s.memWrite a v).params = s.params := by
  unfold State.memWrite; repeat' split
  all_goals rfl
@[simp] theorem State.memWrite_timaCounter (s : State) (a : Word) (v : Byte) : (s.memWrite a v).timer.timaCounter = s.timer.timaCounter := by
  unfold State.memWrite; repeat' split
  all_goals rfl

/-- Only a write to 0xFF04 touches the divider's counter, and it clears it (20_memory.md R38). -/
theorem State.memWrite_divCounter (s : State) (a : Word) (v : Byte) :
    (s.memWrite a v).timer.divCounter = if a = 0xFF04 then 0 else s.timer.divCounter := by
  unfold State.memWrite addrDiv; repeat' split
  all_goals rfl

/-- A read depends on the Timer and the array only. -/
theorem State.memRead_congr {s t : State} (ht : s.timer = t.timer) (hm : s.mem = t.mem) (a : Word) :
    s.memRead a = t.memRead a := by
  simp only [State.memRead, ht, hm]
@[simp] theorem State.memRead_setA (s : State) (v : Byte) (a : Word) : (s.setA v).memRead a = s.memRead a := rfl
@[simp] theorem State.memRead_setBc (s : State) (v : Word) (a : Word) : (s.setBc v).memRead a = s.memRead a := rfl
@[simp] theorem State.memRead_setDe (s : State) (v : Word) (a : Word) : (s.setDe v).memRead a = s.memRead a := rfl
@[simp] theorem State.memRead_setHl (s : State) (v : Word) (a : Word) : (s.setHl v).memRead a = s.memRead a := rfl
@[simp] theorem State.memRead_setAf (s : State) (v : Word) (a : Word) : (s.setAf v).memRead a = s.memRead a := rfl
@[simp] theorem State.memRead_setFlags (s : State) (fl : Flags) (a : Word) : (s.setFlags fl).memRead a = s.memRead a := rfl
@[simp] theorem State.memRead_setReg (s : State) (r : Reg8) (v : Byte) (a : Word) : (s.setReg r v).memRead a = s.memRead a := by cases r <;> rfl
@[simp] theorem State.memRead_setPair (s : State) (p : Pair) (v : Word) (a : Word) : (s.setPair p v).memRead a = s.memRead a := by cases p <;> rfl
@[simp] theorem State.memRead_setStackPair (s : State) (p : StackPair) (v : Word) (a : Word) : (s.setStackPair p v).memRead a = s.memRead a := by cases p <;> rfl
@[simp] theorem State.memRead_pop16 (s : State) (a : Word) : s.pop16.memRead a = s.memRead a := rfl
@[simp] theorem State.memRead_advancePc (s : State) (n : Nat) (a : Word) : (s.advancePc n).memRead a = s.memRead a := rfl

/-! ## Targets and the stack -/

@[simp] theorem State.writeTarget_sp (s : State) (t : Target8) (v : Byte) : (s.writeTarget t v).sp = s.sp := by cases t <;> simp [State.writeTarget]
@[simp] theorem State.writeTarget_pc (s : State) (t : Target8) (v : Byte) : (s.writeTarget t v).pc = s.pc := by cases t <;> simp [State.writeTarget]
@[simp] theorem State.writeTarget_ime (s : State) (t : Target8) (v : Byte) : (s.writeTarget t v).ime = s.ime := by cases t <;> simp [State.writeTarget]
@[simp] theorem State.writeTarget_imeScheduled (s : State) (t : Target8) (v : Byte) : (s.writeTarget t v).imeScheduled = s.imeScheduled := by cases t <;> simp [State.writeTarget]
@[simp] theorem State.writeTarget_halted (s : State) (t : Target8) (v : Byte) : (s.writeTarget t v).halted = s.halted := by cases t <;> simp [State.writeTarget]
@[simp] theorem State.writeTarget_params (s : State) (t : Target8) (v : Byte) : (s.writeTarget t v).params = s.params := by cases t <;> simp [State.writeTarget]
@[simp] theorem State.writeTarget_regs_f (s : State) (t : Target8) (v : Byte) : (s.writeTarget t v).regs.f = s.regs.f := by cases t <;> simp [State.writeTarget]
@[simp] theorem State.push16_regs (s : State) (v : Word) : (s.push16 v).regs = s.regs := by simp [State.push16]
@[simp] theorem State.push16_pc (s : State) (v : Word) : (s.push16 v).pc = s.pc := by simp [State.push16]
@[simp] theorem State.push16_ime (s : State) (v : Word) : (s.push16 v).ime = s.ime := by simp [State.push16]
@[simp] theorem State.push16_imeScheduled (s : State) (v : Word) : (s.push16 v).imeScheduled = s.imeScheduled := by simp [State.push16]
@[simp] theorem State.push16_halted (s : State) (v : Word) : (s.push16 v).halted = s.halted := by simp [State.push16]
@[simp] theorem State.push16_params (s : State) (v : Word) : (s.push16 v).params = s.params := by simp [State.push16]
@[simp] theorem State.push16_sp (s : State) (v : Word) : (s.push16 v).sp = s.sp - 1 - 1 := by simp [State.push16]
@[simp] theorem State.push16_timaCounter (s : State) (v : Word) : (s.push16 v).timer.timaCounter = s.timer.timaCounter := by simp [State.push16]

/-! ## The Timer -/

@[simp] theorem Timer.advanceDiv_tima (c : Nat) (t : Timer) : (t.advanceDiv c).tima = t.tima := by
  unfold Timer.advanceDiv; split <;> rfl
@[simp] theorem Timer.advanceDiv_timaCounter (c : Nat) (t : Timer) : (t.advanceDiv c).timaCounter = t.timaCounter := by
  unfold Timer.advanceDiv; split <;> rfl
@[simp] theorem Timer.advanceDiv_tma (c : Nat) (t : Timer) : (t.advanceDiv c).tma = t.tma := by
  unfold Timer.advanceDiv; split <;> rfl
@[simp] theorem Timer.advanceDiv_tac (c : Nat) (t : Timer) : (t.advanceDiv c).tac = t.tac := by
  unfold Timer.advanceDiv; split <;> rfl
@[simp] theorem Timer.advanceTima_div (c : Nat) (t : Timer) : (t.advanceTima c).1.div = t.div := by
  unfold Timer.advanceTima; repeat' split
  all_goals rfl
@[simp] theorem Timer.advanceTima_divCounter (c : Nat) (t : Timer) : (t.advanceTima c).1.divCounter = t.divCounter := by
  unfold Timer.advanceTima; repeat' split
  all_goals rfl
@[simp] theorem Timer.advanceTima_tma (c : Nat) (t : Timer) : (t.advanceTima c).1.tma = t.tma := by
  unfold Timer.advanceTima; repeat' split
  all_goals rfl
@[simp] theorem Timer.advanceTima_tac (c : Nat) (t : Timer) : (t.advanceTima c).1.tac = t.tac := by
  unfold Timer.advanceTima; repeat' split
  all_goals rfl

/-- Whatever the counter was, an advance leaves it below the literal threshold or where it was (60_exceptions.md R213). -/
theorem Timer.advanceDiv_divCounter_lt (c : Nat) (t : Timer) : (t.advanceDiv c).divCounter < 255 := by
  unfold Timer.advanceDiv; split <;> dsimp only <;> omega
theorem threshold_le (tac : Byte) : 16 ≤ threshold tac ∧ threshold tac ≤ 1024 := by
  unfold threshold; repeat' split
  all_goals decide

/-! ## Reported cycles, interrupts, the step tail -/

@[simp] theorem State.reportCycles_regs (s : State) (c : Nat) : (s.reportCycles c).regs = s.regs := by
  unfold State.reportCycles; dsimp only; split <;> rfl
@[simp] theorem State.reportCycles_sp (s : State) (c : Nat) : (s.reportCycles c).sp = s.sp := by
  unfold State.reportCycles; dsimp only; split <;> rfl
@[simp] theorem State.reportCycles_pc (s : State) (c : Nat) : (s.reportCycles c).pc = s.pc := by
  unfold State.reportCycles; dsimp only; split <;> rfl
@[simp] theorem State.reportCycles_ime (s : State) (c : Nat) : (s.reportCycles c).ime = s.ime := by
  unfold State.reportCycles; dsimp only; split <;> rfl
@[simp] theorem State.reportCycles_imeScheduled (s : State) (c : Nat) : (s.reportCycles c).imeScheduled = s.imeScheduled := by
  unfold State.reportCycles; dsimp only; split <;> rfl
@[simp] theorem State.reportCycles_halted (s : State) (c : Nat) : (s.reportCycles c).halted = s.halted := by
  unfold State.reportCycles; dsimp only; split <;> rfl
@[simp] theorem State.reportCycles_params (s : State) (c : Nat) : (s.reportCycles c).params = s.params := by
  unfold State.reportCycles; dsimp only; split <;> rfl
@[simp] theorem State.reportCycles_timer (s : State) (c : Nat) : (s.reportCycles c).timer = (s.timer.advance c).1 := by
  unfold State.reportCycles; dsimp only; split <;> rfl

@[simp] theorem State.takeInterrupt_regs (s : State) (i : Source) : (s.takeInterrupt i).regs = s.regs := by simp [State.takeInterrupt]
@[simp] theorem State.takeInterrupt_sp (s : State) (i : Source) : (s.takeInterrupt i).sp = s.sp - 1 - 1 := by simp [State.takeInterrupt]
@[simp] theorem State.takeInterrupt_pc (s : State) (i : Source) : (s.takeInterrupt i).pc = i.vector := by simp [State.takeInterrupt]
@[simp] theorem State.takeInterrupt_ime (s : State) (i : Source) : (s.takeInterrupt i).ime = false := by simp [State.takeInterrupt]
@[simp] theorem State.takeInterrupt_imeScheduled (s : State) (i : Source) : (s.takeInterrupt i).imeScheduled = false := by simp [State.takeInterrupt]
@[simp] theorem State.takeInterrupt_halted (s : State) (i : Source) : (s.takeInterrupt i).halted = false := by simp [State.takeInterrupt]
@[simp] theorem State.takeInterrupt_params (s : State) (i : Source) : (s.takeInterrupt i).params = s.params := by simp [State.takeInterrupt]
@[simp] theorem State.interruptCheck_regs (s : State) : s.interruptCheck.regs = s.regs := by
  unfold State.interruptCheck; repeat' split
  all_goals simp
@[simp] theorem State.interruptCheck_params (s : State) : s.interruptCheck.params = s.params := by
  unfold State.interruptCheck; repeat' split
  all_goals simp
@[simp] theorem State.applyDelayedIme_regs (s : State) (b : Bool) : (s.applyDelayedIme b).regs = s.regs := by
  unfold State.applyDelayedIme; split <;> rfl
@[simp] theorem State.applyDelayedIme_sp (s : State) (b : Bool) : (s.applyDelayedIme b).sp = s.sp := by
  unfold State.applyDelayedIme; split <;> rfl
@[simp] theorem State.applyDelayedIme_pc (s : State) (b : Bool) : (s.applyDelayedIme b).pc = s.pc := by
  unfold State.applyDelayedIme; split <;> rfl
@[simp] theorem State.applyDelayedIme_halted (s : State) (b : Bool) : (s.applyDelayedIme b).halted = s.halted := by
  unfold State.applyDelayedIme; split <;> rfl
@[simp] theorem State.applyDelayedIme_timer (s : State) (b : Bool) : (s.applyDelayedIme b).timer = s.timer := by
  unfold State.applyDelayedIme; split <;> rfl
@[simp] theorem State.applyDelayedIme_mem (s : State) (b : Bool) : (s.applyDelayedIme b).mem = s.mem := by
  unfold State.applyDelayedIme; split <;> rfl
@[simp] theorem State.applyDelayedIme_params (s : State) (b : Bool) : (s.applyDelayedIme b).params = s.params := by
  unfold State.applyDelayedIme; split <;> rfl
@[simp] theorem State.wake_regs (s : State) : s.wake.regs = s.regs := by
  unfold State.wake; split <;> rfl
@[simp] theorem State.wake_sp (s : State) : s.wake.sp = s.sp := by
  unfold State.wake; split <;> rfl
@[simp] theorem State.wake_pc (s : State) : s.wake.pc = s.pc := by
  unfold State.wake; split <;> rfl
@[simp] theorem State.wake_ime (s : State) : s.wake.ime = s.ime := by
  unfold State.wake; split <;> rfl
@[simp] theorem State.wake_imeScheduled (s : State) : s.wake.imeScheduled = s.imeScheduled := by
  unfold State.wake; split <;> rfl
@[simp] theorem State.wake_timer (s : State) : s.wake.timer = s.timer := by
  unfold State.wake; split <;> rfl
@[simp] theorem State.wake_mem (s : State) : s.wake.mem = s.mem := by
  unfold State.wake; split <;> rfl
@[simp] theorem State.wake_params (s : State) : s.wake.params = s.params := by
  unfold State.wake; split <;> rfl
@[simp] theorem State.stepTail_regs (s : State) (b : Bool) : (s.stepTail b).regs = s.regs := by simp [State.stepTail]
@[simp] theorem State.stepTail_params (s : State) (b : Bool) : (s.stepTail b).params = s.params := by simp [State.stepTail]
@[simp] theorem State.complete_regs (s : State) (b : Bool) (c : Nat) : (s.complete b c).regs = s.regs := by simp [State.complete]
@[simp] theorem State.complete_params (s : State) (b : Bool) (c : Nat) : (s.complete b c).params = s.params := by simp [State.complete]

end Sys2Proof.Machine
end

