-- ==== Sys2Proof/Laws/Step.lean ====
section
/-! SUPPORT. All that a step can do (spec/30_encoding.md R54), so that no proof unfolds `step`. -/

namespace Sys2Proof.Machine

/-- A step that completes is a halted step, or a completed body followed by the report and the tail. -/
theorem step_next {s t : State} : step s = .next t ↔
    (s.halted = true ∧ t = s.haltedStep) ∨
    (s.halted = false ∧ ∃ u, exec s.fetch (s.advancePc s.fetch.length) = .next u ∧
      t = u.complete s.imeScheduled (cost s.fetch s)) := by
  unfold step
  cases hh : s.halted
  · cases he : exec s.fetch (s.advancePc s.fetch.length) <;> simp [eq_comm]
  · simp [eq_comm]

/-- A step that raises is one whose body raises. -/
theorem step_fault {s : State} {e : Fault} : step s = .fault e ↔
    s.halted = false ∧ exec s.fetch (s.advancePc s.fetch.length) = .fault e := by
  unfold step
  cases hh : s.halted
  · cases he : exec s.fetch (s.advancePc s.fetch.length) <;> simp
  · simp

/-- A step is refused only where its body is. -/
theorem step_refused {s : State} {r : Refusal} : step s = .refused r ↔
    s.halted = false ∧ exec s.fetch (s.advancePc s.fetch.length) = .refused r := by
  unfold step
  cases hh : s.halted
  · cases he : exec s.fetch (s.advancePc s.fetch.length) <;> simp
  · simp

end Sys2Proof.Machine
end

