-- ==== Sys2Proof/Tests/Slice0.lean ====
section
/-! SUPPORT. The model's own tests: well-formedness, decoding of words written out from the spec's encodings, single
steps whose expected results are rows of spec/95_test_vectors.md, and for every statement with hypotheses a state
and operands that meet them. -/

namespace Sys2Proof.Tests

open Sys2Proof Sys2Proof.Machine

/-! ## Helpers -/

/-- A constructed machine with code at `pc` (the start states of 95_test_vectors.md section 0). -/
def boot (pc : Word) (r : Regs) (code : List Byte) : State := (State.construct Params.default pc r).hostLoad pc code

/-- A machine at 0x0100. -/
def sm (r : Regs) (code : List Byte) : State := boot 0x0100 r code

/-- Bytes stored by the host. -/
def put (a : Word) (bs : List Byte) (s : State) : State := s.hostLoad a bs

/-- One step, seen through `f`. -/
def after {α : Type} (f : State → α) (s : State) : Option α :=
  match step s with
  | .next t => some (f t)
  | .fault _ => none
  | .refused _ => none

/-- The error a step raises. -/
def raised (s : State) : Option Fault :=
  match step s with
  | .next _ => none
  | .fault e => some e
  | .refused _ => none

def af (s : State) : Byte × Byte × Word := (s.regs.a, s.regs.f, s.pc)

def z : Regs := resetRegs

def resetTimer : Timer := State.reset.timer

def hl : Regs := { z with h := 0xC0, l := 0x00 }

/-! ## Well-formedness: the one check, and a term of each other shape -/

theorem test_wf_refuses_prefix_term : (Instr.prefix_cb 0x37).wf = false := by decide
theorem test_wf_accepts_selected_row : Instr.swap_a.wf = true := by decide
theorem test_wf_accepts_operands : (Instr.stop 0xFF).wf = true ∧ (Instr.ld_ma16_sp 0xFFFF).wf = true := by decide

/-! ## Decoding: words written from 30_encoding.md -/

/-- R72 `01 ddd sss` with LD B,A; R73 `00 ddd 110`; R91 `00 pp0 001`. -/
theorem test_decode_loads :
    decode [0b01_000_111] = .ok (.ld_b_a, []) ∧ decode [0b00_111_110, 0x7F] = .ok (.ld_a_n8 0x7F, []) ∧
    decode [0b00_10_0001, 0x34, 0x12] = .ok (.ld_hl_n16 0x1234, []) ∧
    decode [0x08, 0x00, 0xC0] = .ok (.ld_ma16_sp 0xC000, []) ∧ decode [0xF0, 0x0F] = .ok (.ldh_a_ma8 0x0F, []) := by
  decide

/-- R97 `10 ooo sss`, R121 `00 ddd 100`, R123 `00 ddd 101`. -/
theorem test_decode_alu8 :
    decode [0b10_000_000] = .ok (.add_a_b, []) ∧ decode [0b10_111_110] = .ok (.cp_mhl, []) ∧
    decode [0b11_011_110, 0x3A] = .ok (.sbc_a_n8 0x3A, []) ∧ decode [0b00_110_101] = .ok (.dec_mhl, []) ∧
    decode [0b00_000_100] = .ok (.inc_b, []) ∧ decode [0x27] = .ok (.daa, []) := by
  decide

/-- R131-R136. -/
theorem test_decode_alu16 :
    decode [0b00_01_0011] = .ok (.inc_de, []) ∧ decode [0b00_11_1001] = .ok (.add_hl_sp, []) ∧
    decode [0xE8, 0xFF] = .ok (.add_sp_e8 0xFF, []) := by
  decide

/-- R138-R158: the byte after 0xCB is `00 ooo ttt`. -/
theorem test_decode_rotates :
    decode [0x17] = .ok (.rla, []) ∧ decode [0xCB, 0b00_001_001] = .ok (.rrc_c, []) ∧
    decode [0xCB, 0b00_110_110] = .ok (.swap_mhl, []) := by
  decide

/-- R159-R164: the byte after 0xCB is `01 bbb ttt`, `10 bbb ttt`, `11 bbb ttt`. -/
theorem test_decode_bits :
    decode [0xCB, 0b01_111_100] = .ok (.bit_7_h, []) ∧ decode [0xCB, 0b10_000_111] = .ok (.res_0_a, []) ∧
    decode [0xCB, 0b11_111_110] = .ok (.set_7_mhl, []) := by
  decide

/-- R166-R176 and R181-R184. -/
theorem test_decode_control_and_stack :
    decode [0b11_010_010, 0x00, 0x30] = .ok (.jp_nc_a16 0x3000, []) ∧ decode [0b001_11_000, 0x80] = .ok (.jr_c_e8 0x80, []) ∧
    decode [0b11_101_111] = .ok (.rst_0x28, []) ∧ decode [0xD9] = .ok (.reti, []) ∧
    decode [0b11_11_0101] = .ok (.push_af, []) ∧ decode [0b11_00_0001] = .ok (.pop_bc, []) := by
  decide

/-- R186-R192; a missing byte is refused by name. -/
theorem test_decode_system :
    decode [0x76] = .ok (.halt, []) ∧ decode [0x10, 0x00] = .ok (.stop 0x00, []) ∧
    decode [0xD3] = .ok (.unsupported_d3, []) ∧ decode [0xCB] = .error (.truncated 0xCB) ∧ decode [] = .error .empty := by
  decide

/-- The words of the opcode table: a primary row, a CB row written 0xCBxx, a row whose operand bytes are zero, and the
prefix row, whose second byte is then 0x00 (log entry 10). -/
theorem test_table_words :
    decodeTableWord 8 0x80 = some .add_a_b ∧ decodeTableWord 16 0xCB37 = some .swap_a ∧
    decodeTableWord 8 0xC3 = some (.jp_a16 0x0000) ∧ decodeTableWord 8 0xCB = some .rlc_b := by
  decide

/-! ## Loads (95_test_vectors.md 2.1) -/

theorem test_ld_b_a : after (fun t => (t.regs.b, t.pc)) (sm { z with a := 0x3C } [0x47]) = some (0x3C, 0x0101) := by decide
theorem test_ld_h_mhl : after (fun t => (t.regs.h, t.regs.l)) (put 0xC000 [0xAB] (sm hl [0x66])) = some (0xAB, 0x00) := by decide
theorem test_ld_mhl_n8_timer :
    after (fun t => (t.timer.tima, t.mem.read 0xFF05, t.pc)) (sm { z with h := 0xFF, l := 0x05 } [0x36, 0xF0]) =
      some (0xF0, 0x00, 0x0102) := by decide
theorem test_ld_a_mbc_tac :
    after (fun t => (t.regs.a, t.timer.timaCounter)) (put 0xFF07 [0x05] (sm { z with b := 0xFF, c := 0x07 } [0x0A])) =
      some (0x05, 8) := by decide
theorem test_ldh_ma8_a_div :
    after (fun t => (t.timer.div, t.timer.divCounter))
      ({ sm { z with a := 0x99 } [0xE0, 0x04] with timer := { resetTimer with div := 0x37, divCounter := 200 } }) =
      some (0x00, 12) := by decide
theorem test_ld_mhli_a_wraps :
    after (fun t => (t.regs.h, t.regs.l, t.ieReg)) (sm { z with a := 0x11, h := 0xFF, l := 0xFF } [0x22]) =
      some (0x00, 0x00, 0x11) := by decide
theorem test_ld_a_mhld_wraps :
    after (fun t => (t.regs.a, t.regs.h, t.regs.l)) (put 0x0000 [0x31] (boot 0x0200 z [0x3A])) = some (0x31, 0xFF, 0xFF) := by
  decide
theorem test_ld_ma16_sp_wraps :
    after (fun t => (t.memRead 0xFFFF, t.memRead 0x0000)) ({ sm z [0x08, 0xFF, 0xFF] with sp := 0x1234 }) = some (0x34, 0x12) := by
  decide
theorem test_ld_sp_hl : after (·.sp) (sm { z with h := 0xDF, l := 0xFF } [0xF9]) = some 0xDFFF := by decide

/-! ## 8-bit arithmetic (2.2) -/

theorem test_add_a_b : after af (sm { z with a := 0xFF, b := 0x01 } [0x80]) = some (0x00, 0xB0, 0x0101) := by decide
theorem test_add_a_a : after af (sm { z with a := 0x80, f := 0xF0 } [0x87]) = some (0x00, 0x90, 0x0101) := by decide
theorem test_adc_a_b : after af (sm { z with a := 0xE1, b := 0x0F, f := 0x10 } [0x88]) = some (0xF1, 0x20, 0x0101) := by decide
theorem test_adc_a_n8_modes :
    after af (sm { z with a := 0xFF, f := 0x10 } [0xCE, 0x00]) = some (0x00, 0x80, 0x0102) ∧
    after af ({ sm { z with a := 0xFF, f := 0x10 } [0xCE, 0x00] with
      params := { Params.default with adcSbcMode := .hardware } }) = some (0x00, 0xB0, 0x0102) := by decide
theorem test_sbc_a_n8_modes :
    after af (sm { z with f := 0x10 } [0xDE, 0x00]) = some (0xFF, 0x40, 0x0102) ∧
    after af ({ sm { z with f := 0x10 } [0xDE, 0x00] with
      params := { Params.default with adcSbcMode := .hardware } }) = some (0xFF, 0x70, 0x0102) := by decide
theorem test_sub_mhl : after af (put 0xC000 [0x40] (sm { hl with a := 0x3E } [0x96])) = some (0xFE, 0x50, 0x0101) := by decide
theorem test_cp_b : after af (sm { z with a := 0x3C, b := 0x2F } [0xB8]) = some (0x3C, 0x60, 0x0101) := by decide
theorem test_dec_mhl :
    after (fun t => (t.memRead 0xC000, t.regs.f)) (sm { hl with f := 0x10 } [0x35]) = some (0xFF, 0x70) := by decide
theorem test_inc_b : after (fun t => (t.regs.b, t.regs.f)) (sm { z with b := 0xFF } [0x04]) = some (0x00, 0xA0) := by decide
/-- 1.4: after 0x45 + 0x38, and after 0x99 + 0x67. -/
theorem test_daa_addition :
    after af (sm { z with a := 0x7D } [0x27]) = some (0x83, 0x00, 0x0101) ∧
    after af (sm { z with a := 0x00, f := 0xB0 } [0x27]) = some (0x66, 0x10, 0x0101) := by decide
theorem test_cpl : after af (sm { z with a := 0x35 } [0x2F]) = some (0xCA, 0x60, 0x0101) := by decide
theorem test_ccf : after af (sm { z with f := 0xE0 } [0x3F]) = some (0x00, 0x90, 0x0101) := by decide

/-! ## 16-bit arithmetic, rotates, bits (2.3-2.5) -/

theorem test_add_hl_sp :
    after (fun t => (t.hl, t.regs.f)) ({ sm { z with h := 0xFF, l := 0xFF } [0x39] with sp := 0x0001 }) = some (0x0000, 0x30) := by
  decide
theorem test_add_sp_e8 : after (fun t => (t.sp, t.regs.f)) ({ sm z [0xE8, 0xFF] with sp := 0x0005 }) = some (0x0004, 0x30) := by
  decide
theorem test_ld_hl_sp_e8 :
    after (fun t => (t.hl, t.regs.f, t.sp)) ({ sm z [0xF8, 0x80] with sp := 0xD000 }) = some (0xCF80, 0x00, 0xD000) := by decide
theorem test_rlca_clears_z : after af (sm { z with f := 0x80 } [0x07]) = some (0x00, 0x00, 0x0101) := by decide
theorem test_rlc_a_sets_z : after af (sm z [0xCB, 0x07]) = some (0x00, 0x80, 0x0102) := by decide
theorem test_rla : after af (sm { z with a := 0x95, f := 0x10 } [0x17]) = some (0x2B, 0x10, 0x0101) := by decide
theorem test_rr_mhl :
    after (fun t => (t.memRead 0xC000, t.regs.f)) (put 0xC000 [0x01] (sm { hl with f := 0x10 } [0xCB, 0x1E])) =
      some (0x80, 0x10) := by decide
theorem test_sra_a : after af (sm { z with a := 0x8A } [0xCB, 0x2F]) = some (0xC5, 0x00, 0x0102) := by decide
theorem test_srl_a : after af (sm { z with a := 0xFF } [0xCB, 0x3F]) = some (0x7F, 0x10, 0x0102) := by decide
theorem test_swap_a : after af (sm { z with a := 0xF0, f := 0x10 } [0xCB, 0x37]) = some (0x0F, 0x00, 0x0102) := by decide
theorem test_bit_0_a : after af (sm { z with f := 0x10 } [0xCB, 0x47]) = some (0x00, 0xB0, 0x0102) := by decide
theorem test_res_0_mhl_div :
    after (fun t => t.timer.div) ({ sm { z with h := 0xFF, l := 0x04 } [0xCB, 0x86] with timer := { resetTimer with div := 0x20 } }) =
      some 0x00 := by decide
theorem test_set_0_mhl_ie : after (·.ieReg) (sm { z with h := 0xFF, l := 0xFF } [0xCB, 0xC6]) = some 0x01 := by decide

/-! ## Control transfer and stack (2.6, 2.7) -/

theorem test_jr_e8 : after (·.pc) (boot 0x0000 z [0x18, 0x05]) = some 0x0007 := by decide
theorem test_jr_e8_wraps : after (·.pc) (boot 0xFFFE z [0x18, 0x05]) = some 0x0005 := by decide
theorem test_jr_nz_modes :
    after (fun t => (t.pc, t.timer.divCounter)) (boot 0x0105 z [0x20, 0xFB]) = some (0x0102, 12) ∧
    after (fun t => (t.pc, t.timer.divCounter)) (boot 0x0105 { z with f := 0x80 } [0x20, 0xFB]) = some (0x0107, 8) ∧
    after (fun t => (t.pc, t.timer.divCounter)) ({ boot 0x0105 z [0x20, 0xFB] with
      params := { Params.default with condCostMode := .base } }) = some (0x0102, 8) := by decide
theorem test_jp_nz : after (·.pc) (boot 0x0200 { z with f := 0x80 } [0xC2, 0x00, 0x30]) = some 0x0203 := by decide
theorem test_jp_hl : after (·.pc) (sm { z with h := 0x40 } [0xE9]) = some 0x4000 := by decide
theorem test_call :
    after (fun t => (t.pc, t.sp, t.memRead 0xFFFD, t.memRead 0xFFFC)) (sm z [0xCD, 0x34, 0x12]) =
      some (0x1234, 0xFFFC, 0x01, 0x03) := by decide
theorem test_rst_28 :
    after (fun t => (t.pc, t.sp, t.memRead 0xFFFD, t.memRead 0xFFFC)) (boot 0x0200 z [0xEF]) =
      some (0x0028, 0xFFFC, 0x02, 0x01) := by decide
theorem test_ret_z :
    after (fun t => (t.pc, t.sp, t.timer.divCounter))
      (put 0xFFFC [0x03, 0x01] ({ boot 0x1234 { z with f := 0x80 } [0xC8] with sp := 0xFFFC })) =
      some (0x0103, 0xFFFE, 20) := by decide
theorem test_reti :
    after (fun t => (t.pc, t.ime, t.imeScheduled)) (put 0xFFFC [0x50, 0x01] ({ boot 0x0040 z [0xD9] with sp := 0xFFFC })) =
      some (0x0150, false, true) := by decide
theorem test_push_wraps :
    after (fun t => (t.sp, t.memRead 0x0000, t.memRead 0xFFFF)) ({ sm { z with b := 0x12, c := 0x34 } [0xC5] with sp := 0x0001 }) =
      some (0xFFFF, 0x12, 0x34) := by decide
theorem test_pop_af :
    after (fun t => (t.af, t.sp)) (put 0xC000 [0xFF, 0x12] ({ sm z [0xF1] with sp := 0xC000 })) = some (0x12F0, 0xC002) := by decide

/-! ## System, interrupts, Timer (2.8, 2.9) -/

theorem test_ei_then_ei :
    after (fun t => (t.ime, t.imeScheduled)) (sm z [0xFB]) = some (false, true) ∧
    after (fun t => (t.ime, t.imeScheduled)) ({ sm z [0xFB] with imeScheduled := true }) = some (true, false) := by decide
theorem test_di_cancels :
    after (fun t => (t.ime, t.imeScheduled)) ({ sm z [0xF3] with ime := true, imeScheduled := true }) = some (false, false) := by
  decide
theorem test_halt_halts : after (fun t => (t.halted, t.pc)) (sm z [0x76]) = some (true, 0x0101) := by decide
theorem test_halt_refused_case :
    raised (put 0xFFFF [0x04] (put 0xFF0F [0x04] (sm z [0x76]))) = some (.unimplemented 0x76) := by decide
theorem test_stop_raises : raised (sm z [0x10, 0x00]) = some (.unimplemented 0x10) := by decide
theorem test_unsupported_raises : raised (boot 0x0200 z [0xD3]) = some (.unsupported 0xD3) := by decide
theorem test_halted_wakes :
    after (fun t => (t.halted, t.pc, t.ifReg)) (put 0xFFFF [0x04] (put 0xFF0F [0x04] ({ sm z [0x00] with halted := true }))) =
      some (false, 0x0100, 0x04) := by decide
theorem test_dispatch_vblank_first :
    after (fun t => (t.pc, t.sp, t.ime, t.ifReg, t.memRead16 0xFFFC)) (put 0xFFFF [0x05] (put 0xFF0F [0x05] ({ sm z [0x00] with ime := true }))) =
      some (0x0040, 0xFFFC, false, 0x00, 0x0101) := by decide
theorem test_dispatch_cycles :
    after (fun t => (t.pc, t.timer.divCounter)) (put 0xFFFF [0x01] (put 0xFF0F [0x01] ({ sm z [0x00] with
      ime := true, params := { Params.default with dispatchCycles := 20 } }))) = some (0x0040, 24) := by decide
theorem test_check_clears_if :
    after (fun t => (t.pc, t.ifReg)) (put 0xFFFF [0x01] (put 0xFF0F [0x1E] ({ sm z [0x00] with ime := true }))) =
      some (0x0101, 0x00) := by decide
theorem test_div_period :
    after (fun t => (t.timer.div, t.timer.divCounter)) ({ sm z [0x00] with timer := { resetTimer with divCounter := 252 } }) =
      some (0x01, 0) := by decide
theorem test_tima_overflow :
    after (fun t => (t.timer.tima, t.timer.timaCounter, t.ifReg)) ({ sm z [0x00] with
      timer := { resetTimer with tac := 0x05, tima := 0xFF, tma := 0x80, timaCounter := 12 } }) = some (0x80, 0, 0x04) := by decide
theorem test_tima_disabled :
    after (fun t => (t.timer.tima, t.timer.timaCounter)) ({ sm z [0x00] with
      timer := { resetTimer with tac := 0x01, timaCounter := 12 } }) = some (0x00, 12) := by decide

/-! ## A state and operands that meet the hypotheses of each statement -/

theorem next_of_after {α : Type} {f : State → α} {s : State} {v : α} (h : after f s = some v) : ∃ t, step s = .next t ∧ f t = v := by
  unfold after at h
  split at h <;> simp_all

/-- One meaning, seen through `f`. -/
def afterExec {α : Type} (f : State → α) (i : Instr) (s : State) : Option α :=
  match exec i s with
  | .next t => some (f t)
  | .fault _ => none
  | .refused _ => none

theorem next_of_afterExec {α : Type} {f : State → α} {i : Instr} {s : State} {v : α} (h : afterExec f i s = some v) :
    ∃ t, exec i s = .next t ∧ f t = v := by
  unfold afterExec at h
  split at h <;> simp_all

/-- VBlank and Timer requested, IME true, NOP at pc. -/
def pending : State := put 0xFFFF [0x05] (put 0xFF0F [0x05] ({ sm z [0x00] with ime := true }))

/-- Halted, IME false, nothing requested. -/
def waiting : State := { sm z [] with halted := true }

theorem test_hyps_step_keeps_inv : pending.Inv ∧ ∃ t, step pending = .next t ∧ t.pc = 0x0040 :=
  ⟨⟨by decide, by decide, by decide, by decide⟩, next_of_after (f := (·.pc)) (by decide)⟩

/-- Both sides of each bound of the third clause, and the four values of `a` of the last. -/
theorem test_hyps_byte_access_routing :
    ((0xFF03 : Word) < 0xFF04 ∨ 0xFF07 < (0xFF03 : Word)) ∧ ((0xFF08 : Word) < 0xFF04 ∨ 0xFF07 < (0xFF08 : Word)) ∧
    ¬((0xFF04 : Word) < 0xFF04 ∨ 0xFF07 < (0xFF04 : Word)) ∧ ¬((0xFF07 : Word) < 0xFF04 ∨ 0xFF07 < (0xFF07 : Word)) ∧
    pending.mem.wf = true ∧
    ([0xFF03, 0xFF04, 0xFF07, 0xFF08] : List Word).map (fun a => (pending.memWrite a 0x5A).memRead a) = [0x5A, 0x00, 0x5A, 0x5A] := by
  decide

theorem test_hyps_canonical_memories_agree :
    (Memory.write [] 5 0x01).wf = true ∧ (Memory.write (Memory.write [] 5 0x02) 5 0x01).wf = true ∧
    ∀ a : Word, (Memory.write [] 5 0x01).read a.toNat = (Memory.write (Memory.write [] 5 0x02) 5 0x01).read a.toNat :=
  ⟨by decide, by decide, fun _ => rfl⟩

theorem test_hyps_decode_encode : (Instr.ld_ma16_sp 0xFFFF).wf = true ∧
    decode (encode (.ld_ma16_sp 0xFFFF) ++ [0xAA]) = .ok (.ld_ma16_sp 0xFFFF, [0xAA]) := by decide

/-- The first clause on ADD A,B, the second on STOP. -/
theorem test_hyps_step_runs_decoded :
    ((sm z [0x80]).halted = false ∧ decode [(sm z [0x80]).memRead 0x0100, 0x00, 0x00] = .ok (.add_a_b, [0x00, 0x00]) ∧
      ∃ t, exec .add_a_b { sm z [0x80] with pc := 0x0101 } = .next t ∧ t.regs.f = 0x80) ∧
    decode [0x10, 0x00, 0x00] = .ok (.stop 0x00, [0x00]) ∧ exec (.stop 0x00) (sm z []) = .fault (.unimplemented 0x10) :=
  ⟨⟨by decide, by decide, next_of_afterExec (f := (·.regs.f)) (by decide)⟩, by decide, rfl⟩

/-- A word placed at the timer addresses runs too. -/
theorem test_hyps_placed_word : ({ State.reset with pc := 0xFF04 } : State).mem.wf = true ∧
    (({ State.reset with pc := 0xFF04 } : State).withFetchWord 24 0x1234C3).fetch = .jp_a16 0x1234 := by decide

theorem test_hyps_halted_step : waiting.halted = true ∧ waiting.snapshot = 0 ∧ waiting.ime = false ∧
    waiting.imeScheduled = false ∧ (waiting.timer.advance 4).2 = false := by decide

/-- Each clause at the value where it begins, and one below. -/
theorem test_hyps_timer_advance :
    (255 ≤ ({ resetTimer with divCounter := 251 } : Timer).divCounter + 4) ∧
    (({ resetTimer with divCounter := 250 } : Timer).divCounter + 4 < 255) ∧
    (resetTimer.tac.getLsbD 2 = false) ∧
    (({ resetTimer with tac := 0x05, timaCounter := 11 } : Timer).timaCounter + 4 < threshold 0x05) ∧
    (threshold 0x05 ≤ ({ resetTimer with tac := 0x05, timaCounter := 12 } : Timer).timaCounter + 4) ∧
    ((0x05 : Byte).getLsbD 2 = true) ∧
    ((({ resetTimer with tac := 0x05, timaCounter := 12, tima := 0xFF, tma := 0x80 } : Timer).advance 4) =
      ({ resetTimer with tac := 0x05, divCounter := 4, tima := 0x80, tma := 0x80 }, true)) ∧
    ((({ resetTimer with tac := 0x05, timaCounter := 12, tima := 0xFE } : Timer).advance 4) =
      ({ resetTimer with tac := 0x05, divCounter := 4, tima := 0xFF }, false)) := by decide

theorem test_thresholds : (0xF8 : Byte).toNat % 4 = 0 ∧ (0x05 : Byte).toNat % 4 = 1 ∧ (0x06 : Byte).toNat % 4 = 2 ∧
    (0x07 : Byte).toNat % 4 = 3 ∧ threshold 0xF8 = 1024 ∧ threshold 0x05 = 16 ∧ threshold 0x06 = 64 ∧ threshold 0x07 = 256 := by
  decide

/-- A Timer about to overflow. -/
def brim : Timer := { resetTimer with tac := 0x05, tima := 0xFF, timaCounter := 12 }

theorem test_hyps_cycles_reported : (resetTimer.advance 4).2 = false ∧ (brim.advance 4).2 = true := by decide

theorem test_hyps_timer_runs : resetTimer.divCounter = 0 ∧
    ({ resetTimer with tac := 0x05, tima := 0xFF } : Timer).tac = 0x05 ∧ resetTimer.timaCounter = 0 ∧ resetTimer.tma = 0x00 := by
  decide

theorem test_hyps_interrupt_priority : Source.ofSnapshot 0x14 = some .timer ∧ Source.ofSnapshot 0x08 = some .serial ∧
    Source.ofSnapshot 0xE0 = none := by decide

/-- The three cases of the check. -/
theorem test_hyps_interrupt_check :
    waiting.ime = false ∧ pending.ime = true ∧ Source.ofSnapshot pending.snapshot = some .vblank ∧
    ({ sm z [] with ime := true } : State).ime = true ∧ Source.ofSnapshot ({ sm z [] with ime := true } : State).snapshot = none := by
  decide

theorem test_hyps_dispatch_discards : pending.Inv ∧ pending.ime = true ∧ Source.ofSnapshot pending.snapshot = some .vblank ∧
    pending.params.dispatchCycles = 0 ∧ pending.timer.timaCounter < threshold pending.timer.tac ∧
    pending.sp - 1 ≠ 0xFF0F ∧ pending.sp - 2 ≠ 0xFF0F ∧ (∀ a ∈ [pending.sp - 1, pending.sp - 2], a < 0xFF04 ∨ 0xFF07 < a) :=
  ⟨⟨by decide, by decide, by decide, by decide⟩, by decide, by decide, by decide, by decide, by decide, by decide,
    List.forall_mem_cons.2 ⟨by decide, List.forall_mem_cons.2 ⟨by decide, by simp⟩⟩⟩

/-- The three cases of the wake-up, with an enabled request and without. -/
theorem test_hyps_wake_up :
    ({ pending with halted := true } : State).halted = true ∧ ({ pending with halted := true } : State).snapshot ≠ 0 ∧
    pending.halted = false ∧ waiting.halted = true ∧ waiting.snapshot = 0 := by decide

/-- A scheduled enable that applies in a NOP step; a DI step; an EI step. -/
theorem test_hyps_enable_rises :
    (∃ t, step { sm z [0x00] with imeScheduled := true } = .next t ∧ t.ime = true) ∧
    ((sm z [0xF3]).halted = false ∧ (sm z [0xF3]).memRead 0x0100 = 0xF3 ∧ ∃ t, step (sm z [0xF3]) = .next t ∧ t.ime = false) ∧
    ((sm z [0xFB]).halted = false ∧ (sm z [0xFB]).memRead 0x0100 = 0xFB ∧ (sm z [0xFB]).ime = false ∧
      (sm z [0xFB]).imeScheduled = false ∧ ∃ t, step (sm z [0xFB]) = .next t ∧ t.imeScheduled = true) :=
  ⟨next_of_after (f := (·.ime)) (by decide), ⟨by decide, by decide, next_of_after (f := (·.ime)) (by decide)⟩,
    by decide, by decide, by decide, by decide, next_of_after (f := (·.imeScheduled)) (by decide)⟩

/-- IME stays true through a NOP step with a request that is not enabled. -/
def unenabled : State := put 0xFF0F [0x1E] ({ sm z [0x00] with ime := true })

theorem test_hyps_requests_clear : unenabled.Inv ∧ ∃ t, step unenabled = .next t ∧ (t.ime, t.ifReg) = (true, 0x00) :=
  ⟨⟨by decide, by decide, by decide, by decide⟩, next_of_after (f := fun t => (t.ime, t.ifReg)) (by decide)⟩

/-- The carry cases of ADC and SBC in both modes. -/
theorem test_hyps_adc_sbc :
    (sm z []).flagC = false ∧ (sm { z with f := 0x10 } []).flagC = true ∧ (sm z []).params.adcSbcMode = .doubleStep ∧
    ({ sm z [] with params := { Params.default with adcSbcMode := .hardware } } : State).params.adcSbcMode = .hardware := by
  decide

theorem test_hyps_daa : (sm { z with f := 0x40 } []).flagN = true ∧ (sm z []).flagN = false := by decide

theorem test_hyps_daa_corrects : IsBcd (sm { z with a := 0x99 } []).regs.a ∧ IsBcd 0x67 ∧ (sm { z with a := 0x99 } []).flagC = false := by
  unfold IsBcd
  decide

/-- Entries just above 0xFF04 and just below it, the wrapping one and the one at reset. -/
theorem test_hyps_round_trips :
    ([0xFF07, 0xFF04, 0x0001, 0xFFFE] : List Word).all (fun sp => sp - 1 ≠ 0xFF04 ∧ sp - 2 ≠ 0xFF04) = true := by decide

theorem test_hyps_round_trip_inv : ({ sm z [] with sp := 0xFF07 } : State).Inv := ⟨by decide, by decide, by decide, by decide⟩

theorem test_hyps_nop_and_di_steps : (sm z [0x00]).halted = false ∧ (sm z [0x00]).memRead (sm z [0x00]).pc = 0x00 ∧
    pending.halted = false ∧ (sm z [0xF3]).memRead (sm z [0xF3]).pc = 0xF3 := by decide

/-- HALT's two cases; the first by each of its three reasons. -/
theorem test_hyps_halt :
    pending.ime = true ∧ ({ sm z [] with imeScheduled := true } : State).imeScheduled = true ∧ (sm z []).snapshot = 0 ∧
    ({ pending with ime := false } : State).ime = false ∧ ({ pending with ime := false } : State).imeScheduled = false ∧
    ({ pending with ime := false } : State).snapshot ≠ 0 := by decide

theorem test_hyps_unsupported_rows : (0xFD, Instr.unsupported_fd) ∈ unsupportedRows := by decide

/-- PUSH BC completes, writes SP and stores two bytes; 0xFFFD is stored to, 0xFFFB and 0xFF04 are not. -/
theorem test_hyps_frames :
    (∃ t, exec .push_bc (sm { z with b := 0x12 } []) = .next t ∧ t.memRead 0xFFFD = 0x12) ∧
    0xFFFD ∈ storedAddrs .push_bc (sm z []) ∧ 0xFFFB ∉ storedAddrs .push_bc (sm z []) ∧ 0xFF04 ∉ storedAddrs .push_bc (sm z []) ∧
    Reg8.b ∉ regsWritten .push_bc ∧ writesPc .push_bc = false ∧ writesSp .inc_b = false :=
  ⟨next_of_afterExec (f := (·.memRead 0xFFFD)) (by decide), by decide⟩

end Sys2Proof.Tests
end

section
/-! The half-carry helpers (spec/00_scope.md R11) as arithmetic on the low nibbles, and O9. -/

namespace Sys2Proof.Machine

theorem halfAdd_eq (a b : Byte) : halfAdd a b = decide (a.toNat % 16 + b.toNat % 16 > 15) := by
  simp only [halfAdd, nibble_toNat]

theorem halfSub_eq (a b : Byte) : halfSub a b = decide (a.toNat % 16 < b.toNat % 16) := by
  simp only [halfSub, nibble_toNat]

/-- Two nibbles add up to at most 30, so their byte sum does not wrap. -/
theorem nibble_add_toNat (a b : Byte) : ((a &&& 0x0F) + (b &&& 0x0F)).toNat = a.toNat % 16 + b.toNat % 16 := by
  rw [BitVec.toNat_add, nibble_toNat, nibble_toNat]
  omega

theorem and_0x10_ne_zero_iff (v : Byte) : v &&& 0x10 ≠ 0 ↔ v.toNat / 16 % 2 = 1 := by
  have hand : (v &&& 0x10).toNat = (v.toNat.testBit 4).toNat * 16 := Nat.and_two_pow v.toNat 4
  have hbit : v.toNat.testBit 4 = decide (v.toNat / 16 % 2 = 1) := Nat.testBit_eq_decide_div_mod_eq
  rw [Ne, ← BitVec.toNat_inj, hand, hbit]
  by_cases h : v.toNat / 16 % 2 = 1 <;> simp [h]

/-- Below 32, bit 4 of the nibbles' sum is set exactly when the sum exceeds 15: the two forms of half_add agree. -/
theorem halfAdd_eq_carryBit (a b : Byte) :
    halfAdd a b = decide ((((a &&& 0x0F) + (b &&& 0x0F)) &&& 0x10) ≠ 0) := by
  rw [halfAdd_eq, decide_eq_decide, and_0x10_ne_zero_iff, nibble_add_toNat]
  omega

@[simp] theorem add8_h (a b : Byte) : (add8 a b).2.h = halfAdd a b := rfl

@[simp] theorem sub8_h (a b : Byte) : (sub8 a b).2.h = halfSub a b := rfl

/-- Settles O9: both helpers are arithmetic on the low nibbles, and `add8` and `sub8` set H from the operands before
the operation. -/
theorem halfCarryHelpers : Obligations.HalfCarryHelpers :=
  ⟨fun a b => ⟨halfAdd_eq_carryBit a b, halfAdd_eq a b, halfSub_eq a b⟩, fun a b => ⟨add8_h a b, sub8_h a b⟩⟩

end Sys2Proof.Machine
end

section
/-! The register pair views (spec/10_state.md R16) read back, and O7. -/

namespace Sys2Proof.Machine

@[simp] theorem State.bc_setBc (s : State) (v : Word) : (s.setBc v).bc = v := mkWord_hi_lo v

@[simp] theorem State.de_setDe (s : State) (v : Word) : (s.setDe v).de = v := mkWord_hi_lo v

@[simp] theorem State.hl_setHl (s : State) (v : Word) : (s.setHl v).hl = v := mkWord_hi_lo v

/-- Masking the low byte masks the word: the high byte's mask is 0xFF. -/
theorem mkWord_hi_lo_and_0xF0 (v : Word) : mkWord v.hi (v.lo &&& 0xF0) = v &&& 0xFFF0 :=
  calc mkWord v.hi (v.lo &&& 0xF0)
      = mkWord (v.hi &&& 0xFF) (v.lo &&& 0xF0) := by rw [show v.hi &&& 0xFF = v.hi from BitVec.and_allOnes]
    _ = mkWord v.hi v.lo &&& mkWord 0xFF 0xF0 := BitVec.and_append.symm
    _ = v &&& 0xFFF0 := by rw [mkWord_hi_lo]; rfl

@[simp] theorem State.af_setAf (s : State) (v : Word) : (s.setAf v).af = v &&& 0xFFF0 := mkWord_hi_lo_and_0xF0 v

/-- Settles O7: a view's value is its two bytes as a number, what is written reads back, and the write is to the two
registers of the pair. -/
theorem registerPairViews : Obligations.RegisterPairViews :=
  ⟨fun s => ⟨mkWord_toNat s.regs.b s.regs.c, mkWord_toNat s.regs.d s.regs.e, mkWord_toNat s.regs.h s.regs.l,
      mkWord_toNat s.regs.a s.regs.f⟩,
    fun s v => ⟨s.bc_setBc v, s.de_setDe v, s.hl_setHl v, s.af_setAf v⟩,
    fun _ _ => ⟨rfl, rfl, rfl, rfl⟩⟩

end Sys2Proof.Machine
end

section
/-! The flag reads and setters (spec/10_state.md R17, R18), and O8. -/

namespace Sys2Proof.Machine

/-- A flag setter changes F alone. -/
theorem State.setFlags_eq_update_f (s : State) (fl : Flags) :
    s.setFlags fl = { s with regs := { s.regs with f := (s.setFlags fl).regs.f } } := rfl

/-- The carry read after a flag setter is the carry set. -/
@[simp] theorem State.flagC_setFlags (s : State) (fl : Flags) : (s.setFlags fl).flagC = fl.c :=
  congrArg Flags.c (s.flags_setFlags fl)

/-- Settles O8: the flags are bits 7..4 of F, what is set reads back with the other flags and F[3:0] kept, and the two
helpers are arithmetic on the low nibbles. -/
theorem flagSetters : Obligations.FlagSetters :=
  ⟨fun _ => rfl,
    fun s fl => ⟨s.flags_setFlags fl, s.setFlags_low fl, s.setFlags_eq_update_f fl⟩,
    fun s _ => ⟨s.flags_setFlags _, s.flags_setFlags _, s.flags_setFlags _, s.flags_setFlags _, s.flagC_setFlags _⟩,
    fun a b => ⟨halfAdd_eq a b, halfSub_eq a b⟩⟩

end Sys2Proof.Machine
end

section
/-! Memory and the Timer of a constructed state (spec/20_memory.md R36), and O1. -/

namespace Sys2Proof.Machine

/-- A constructed state's array lists no cell, so each cell is `Memory.unlisted`. -/
@[simp] theorem State.mem_read_construct (p : Params) (pc : Word) (r : Regs) (n : Nat) :
    (State.construct p pc r).mem.read n = 0x00 := rfl

/-- A read of a constructed state is 0x00 on both sides of the routing (R37): each timer register is zero, and so is
each cell of the array. -/
@[simp] theorem State.memRead_construct (p : Params) (pc : Word) (r : Regs) (a : Word) :
    (State.construct p pc r).memRead a = 0x00 := by
  unfold State.memRead
  split_ifs
  case neg => exact State.mem_read_construct p pc r a.toNat
  all_goals rfl

/-- Settles O1: the array lists no cell, every route of a read ends in a zero byte, and the Timer is the zeroed one. -/
theorem constructionZeroesMemoryAndTimer : Obligations.ConstructionZeroesMemoryAndTimer :=
  fun p pc r => ⟨fun a => ⟨State.mem_read_construct p pc r a.toNat, State.memRead_construct p pc r a⟩, rfl⟩

end Sys2Proof.Machine
end

section
/-! The columns of an unconditional row (spec/30_encoding.md R65, R70), and the rows of the load families. -/

namespace Sys2Proof.Machine

/-- A row with no `cycles_taken` column costs its `cycles` column in every state (R70). -/
theorem cost_of_takenColumn_none {i : Instr} (h : takenColumn i = none) (s : State) :
    cost i s = cyclesColumn (selectedRow i) := by
  unfold cost
  rw [h]

/-- An unconditional row is read off its columns. -/
theorem rowIs_of_columns {i : Instr} {bytes : List Byte} {cycles : Nat} (hencode : encode i = bytes)
    (hlength : i.length = bytes.length) (htaken : takenColumn i = none) (hcycles : cyclesColumn (selectedRow i) = cycles) :
    RowIs i bytes cycles :=
  ⟨hencode, hlength, fun s => (cost_of_takenColumn_none htaken s).trans hcycles⟩

theorem rowIs_ldRegReg (dst r : Reg8) : RowIs (ldRegReg dst r) [BitVec.ofNat 8 (0x40 + 8 * dst.code + r.code)] 4 := by
  cases dst <;> cases r <;> exact rowIs_of_columns rfl rfl rfl rfl

theorem rowIs_ldRegImm (dst : Reg8) (n : Byte) : RowIs (ldRegImm n dst) [BitVec.ofNat 8 (0x06 + 8 * dst.code), n] 8 := by
  cases dst <;> exact rowIs_of_columns rfl rfl rfl rfl

theorem rowIs_ldRegMhl (dst : Reg8) : RowIs (ldRegMhl dst) [BitVec.ofNat 8 (0x46 + 8 * dst.code)] 8 := by
  cases dst <;> exact rowIs_of_columns rfl rfl rfl rfl

theorem rowIs_ldMhlReg (r : Reg8) : RowIs (ldMhlReg r) [BitVec.ofNat 8 (0x70 + r.code)] 8 := by
  cases r <;> exact rowIs_of_columns rfl rfl rfl rfl

theorem rowIs_ldPairImm (p : Pair) (n : Word) :
    RowIs (ldPairImm n p) [BitVec.ofNat 8 (0x01 + 16 * p.code), n.extractLsb' 0 8, n.extractLsb' 8 8] 12 := by
  cases p <;> exact rowIs_of_columns rfl rfl rfl rfl

end Sys2Proof.Machine
end

section
/-! The single registers and the pairs read back, and what the load families do by their operands
(spec/40_loads.md R72-R75, R91): every row of a family is one shared operation at its operands. -/

namespace Sys2Proof.Machine

@[simp] theorem State.getReg_setReg (s : State) (dst r : Reg8) (v : Byte) :
    (s.setReg dst v).getReg r = if r = dst then v else s.getReg r := by
  cases dst <;> cases r <;> rfl

@[simp] theorem State.getPair_setPair_same (s : State) (p : Pair) (v : Word) : (s.setPair p v).getPair p = v := by
  cases p with
  | bc => exact s.bc_setBc v
  | de => exact s.de_setDe v
  | hl => exact s.hl_setHl v
  | sp => rfl

theorem exec_ldRegReg (dst r : Reg8) (s : State) : exec (ldRegReg dst r) s = .next (s.setReg dst (s.getReg r)) := by
  cases dst <;> cases r <;> exact ld8_next.2 rfl

theorem exec_ldRegImm (dst : Reg8) (n : Byte) (s : State) : exec (ldRegImm n dst) s = .next (s.setReg dst n) := by
  cases dst <;> exact ld8_next.2 rfl

theorem exec_ldRegMhl (dst : Reg8) (s : State) : exec (ldRegMhl dst) s = .next (s.setReg dst (s.memRead s.hl)) := by
  cases dst <;> exact ld8_next.2 rfl

theorem exec_ldMhlReg (r : Reg8) (s : State) : exec (ldMhlReg r) s = .next (s.memWrite s.hl (s.getReg r)) := by
  cases r <;> exact ld8_next.2 rfl

theorem exec_ldPairImm (p : Pair) (n : Word) (s : State) : exec (ldPairImm n p) s = .next (s.setPair p n) := by
  cases p <;> exact ld16_next.2 rfl

end Sys2Proof.Machine
end

section
/-! The loads and stores of spec/40_loads.md: O29, O30, O31 and O32. -/

namespace Sys2Proof.Machine

/-- Settles O29: the three families by their operands, and what each register reads after one of them is written. -/
theorem loadRegister : Obligations.LoadRegister :=
  ⟨fun dst r => ⟨rowIs_ldRegReg dst r, exec_ldRegReg dst r⟩,
    fun dst n => ⟨rowIs_ldRegImm dst n, exec_ldRegImm dst n⟩,
    fun dst => ⟨rowIs_ldRegMhl dst, exec_ldRegMhl dst⟩,
    fun dst r v s => s.getReg_setReg dst r v⟩

/-- Settles O30: each load of A is `ld8` of A with the byte at the row's address, or `loadStep` to the stepped HL. -/
theorem loadAccumulator : Obligations.LoadAccumulator :=
  ⟨rowIs_of_columns rfl rfl rfl rfl, rowIs_of_columns rfl rfl rfl rfl, rowIs_of_columns rfl rfl rfl rfl,
    rowIs_of_columns rfl rfl rfl rfl, rowIs_of_columns rfl rfl rfl rfl,
    fun _ => rowIs_of_columns rfl rfl rfl rfl, fun _ => rowIs_of_columns rfl rfl rfl rfl,
    fun _ => ⟨ld8_next.2 rfl, ld8_next.2 rfl, ld8_next.2 rfl, loadStep_next.2 rfl, loadStep_next.2 rfl⟩,
    fun _ _ => ld8_next.2 rfl, fun _ _ => ld8_next.2 rfl⟩

/-- Settles O31: the stores through HL by their operand; each store of A is `store8` at the row's address, or
`storeStep` to the stepped HL. -/
theorem storeByte : Obligations.StoreByte :=
  ⟨fun r => ⟨rowIs_ldMhlReg r, exec_ldMhlReg r⟩,
    fun _ => ⟨rowIs_of_columns rfl rfl rfl rfl, fun _ => ld8_next.2 rfl⟩,
    rowIs_of_columns rfl rfl rfl rfl, rowIs_of_columns rfl rfl rfl rfl, rowIs_of_columns rfl rfl rfl rfl,
    rowIs_of_columns rfl rfl rfl rfl, rowIs_of_columns rfl rfl rfl rfl,
    fun _ => rowIs_of_columns rfl rfl rfl rfl, fun _ => rowIs_of_columns rfl rfl rfl rfl,
    fun _ => ⟨store8_next.2 rfl, store8_next.2 rfl, store8_next.2 rfl, storeStep_next.2 rfl, storeStep_next.2 rfl⟩,
    fun _ _ => store8_next.2 rfl, fun _ _ => store8_next.2 rfl⟩

/-- Settles O32: LD rr,n16 by its operands, with the pair read back, and LD SP,HL as `ld16` of SP. -/
theorem loadPairAndStackPointer : Obligations.LoadPairAndStackPointer :=
  ⟨fun p n => ⟨rowIs_ldPairImm p n, fun s => ⟨exec_ldPairImm p n s, s.getPair_setPair_same p n⟩⟩,
    rowIs_of_columns rfl rfl rfl rfl, fun _ => ld16_next.2 rfl⟩

end Sys2Proof.Machine
end

section
/-! ADD, SUB, INC and DEC of bytes (spec/41_alu8.md R95, R121-R124) as arithmetic on the operands' numbers. -/

namespace Sys2Proof.Machine

/-- The byte sum is the sum of the numbers modulo 256; Z, H and C are read off the numbers. -/
theorem add8_eq (a b : Byte) : add8 a b =
    (BitVec.ofNat 8 (a.toNat + b.toNat),
      { z := decide ((a.toNat + b.toNat) % 256 = 0), n := false,
        h := decide (a.toNat % 16 + b.toNat % 16 > 15), c := decide (a.toNat + b.toNat > 255) }) := by
  have hsum : a + b = BitVec.ofNat 8 (a.toNat + b.toNat) := BitVec.add_def a b
  have hz : (a + b == 0) = decide ((a.toNat + b.toNat) % 256 = 0) := by
    rw [beq_eq_decide, decide_eq_decide, ← BitVec.toNat_inj, BitVec.toNat_add]
    rfl
  rw [← hsum, ← hz, ← halfAdd_eq]
  rfl

/-- The byte difference is the difference of the numbers modulo 256; it is 0 exactly when the operands agree. -/
theorem sub8_eq (a b : Byte) : sub8 a b =
    (BitVec.ofNat 8 (256 + a.toNat - b.toNat),
      { z := decide (a = b), n := true,
        h := decide (a.toNat % 16 < b.toNat % 16), c := decide (a.toNat < b.toNat) }) := by
  have hdiff : a - b = BitVec.ofNat 8 (256 + a.toNat - b.toNat) := by bv_omega
  have hz : (a - b == 0) = decide (a = b) := by
    rw [beq_eq_decide, decide_eq_decide]
    exact sub_eq_zero
  rw [← hdiff, ← hz, ← halfSub_eq]
  rfl

/-- INC gives 0 from 0xFF alone, and carries out of a low nibble of 15. -/
theorem incFlags_eq (v : Byte) (old : Flags) :
    incFlags v old = { z := decide (v = 0xFF), n := false, h := decide (v.toNat % 16 = 15), c := old.c } := by
  have hz : (v + 1 == 0) = decide (v = 0xFF) := by
    rw [beq_eq_decide, decide_eq_decide]
    bv_omega
  have hh : halfAdd v 1 = decide (v.toNat % 16 = 15) := by
    rw [halfAdd_eq, decide_eq_decide, show (1 : Byte).toNat = 1 from rfl]
    omega
  rw [← hz, ← hh]
  rfl

/-- DEC gives 0 from 0x01 alone, and borrows into a low nibble of 0. -/
theorem decFlags_eq (v : Byte) (old : Flags) :
    decFlags v old = { z := decide (v = 0x01), n := true, h := decide (v.toNat % 16 = 0), c := old.c } := by
  have hz : (v - 1 == 0) = decide (v = 0x01) := by
    rw [beq_eq_decide, decide_eq_decide]
    exact sub_eq_zero
  have hh : halfSub v 1 = decide (v.toNat % 16 = 0) := by
    rw [halfSub_eq, decide_eq_decide, show (1 : Byte).toNat = 1 from rfl]
    omega
  rw [← hz, ← hh]
  rfl

end Sys2Proof.Machine
end

section
/-! The rows of the 8-bit ALU operations and of INC and DEC by their operands (spec/41_alu8.md R94, R121-R124): every
row of a family is one shared operation at its operand. -/

namespace Sys2Proof.Machine

theorem rowIs_aluReg (op : AluOp) (r : Reg8) :
    RowIs (aluReg op r) [BitVec.ofNat 8 (0x80 + 8 * op.code + r.code)] 4 := by
  cases op <;> cases r <;> exact rowIs_of_columns rfl rfl rfl rfl

theorem rowIs_aluMhl (op : AluOp) : RowIs (aluMhl op) [BitVec.ofNat 8 (0x86 + 8 * op.code)] 8 := by
  cases op <;> exact rowIs_of_columns rfl rfl rfl rfl

theorem rowIs_aluImm (n : Byte) (op : AluOp) : RowIs (aluImm n op) [BitVec.ofNat 8 (0xC6 + 8 * op.code), n] 8 := by
  cases op <;> exact rowIs_of_columns rfl rfl rfl rfl

theorem rowIs_incReg (dst : Reg8) : RowIs (incReg dst) [BitVec.ofNat 8 (0x04 + 8 * dst.code)] 4 := by
  cases dst <;> exact rowIs_of_columns rfl rfl rfl rfl

theorem rowIs_decReg (dst : Reg8) : RowIs (decReg dst) [BitVec.ofNat 8 (0x05 + 8 * dst.code)] 4 := by
  cases dst <;> exact rowIs_of_columns rfl rfl rfl rfl

theorem exec_aluReg (op : AluOp) (r : Reg8) (s : State) : exec (aluReg op r) s = aluA op (s.getReg r) s := by
  cases op <;> cases r <;> rfl

theorem exec_aluMhl (op : AluOp) (s : State) : exec (aluMhl op) s = aluA op (s.memRead s.hl) s := by
  cases op <;> rfl

theorem exec_aluImm (n : Byte) (op : AluOp) (s : State) : exec (aluImm n op) s = aluA op n s := by
  cases op <;> rfl

theorem exec_incReg (dst : Reg8) (s : State) : exec (incReg dst) s = inc8 (.reg dst) s := by
  cases dst <;> rfl

theorem exec_decReg (dst : Reg8) (s : State) : exec (decReg dst) s = dec8 (.reg dst) s := by
  cases dst <;> rfl

/-- The three forms of an ALU operation differ in their row and their operand only: what follows from the row and from
the body `aluA op` at the operand's value holds of all three. -/
theorem forAluForms_of_aluA {op : AluOp} {P : Instr → (State → Byte) → List Byte → Nat → Prop}
    (h : ∀ i v bytes cycles, RowIs i bytes cycles → (∀ s : State, exec i s = aluA op (v s) s) → P i v bytes cycles) :
    ForAluForms op P :=
  ⟨fun r => h _ _ _ _ (rowIs_aluReg op r) (exec_aluReg op r),
    h _ _ _ _ (rowIs_aluMhl op) (exec_aluMhl op),
    fun n => h _ _ _ _ (rowIs_aluImm n op) (exec_aluImm n op)⟩

end Sys2Proof.Machine
end

section
/-! What ADD, SUB, CP, INC and DEC do to the state, in numbers, and O34, O37 and O40. -/

namespace Sys2Proof.Machine

theorem aluA_add (v : Byte) (s : State) : aluA .add v s =
    .next ((s.setA (BitVec.ofNat 8 (s.regs.a.toNat + v.toNat))).setFlags
      { z := decide ((s.regs.a.toNat + v.toNat) % 256 = 0), n := false,
        h := decide (s.regs.a.toNat % 16 + v.toNat % 16 > 15), c := decide (s.regs.a.toNat + v.toNat > 255) }) := by
  rw [aluA_next, aluResult, add8_eq]

theorem aluA_sub (v : Byte) (s : State) : aluA .sub v s =
    .next ((s.setA (BitVec.ofNat 8 (256 + s.regs.a.toNat - v.toNat))).setFlags
      { z := decide (s.regs.a = v), n := true,
        h := decide (s.regs.a.toNat % 16 < v.toNat % 16), c := decide (s.regs.a.toNat < v.toNat) }) := by
  rw [aluA_next, aluResult, sub8_eq]

/-- CP puts back the accumulator it read, so it changes the flags alone. -/
theorem aluA_cp (v : Byte) (s : State) : aluA .cp v s =
    .next (s.setFlags
      { z := decide (s.regs.a = v), n := true,
        h := decide (s.regs.a.toNat % 16 < v.toNat % 16), c := decide (s.regs.a.toNat < v.toNat) }) := by
  have hkeep : s.setA s.regs.a = s := rfl
  rw [aluA_next, aluResult, sub8_eq, hkeep]

theorem inc8_eq (d : Target8) (s : State) : inc8 d s =
    .next ((s.writeTarget d (s.readTarget d + 1)).setFlags
      { z := decide (s.readTarget d = 0xFF), n := false, h := decide ((s.readTarget d).toNat % 16 = 15), c := s.flagC }) := by
  rw [inc8_next, incFlags_eq, State.flags]

theorem dec8_eq (d : Target8) (s : State) : dec8 d s =
    .next ((s.writeTarget d (s.readTarget d - 1)).setFlags
      { z := decide (s.readTarget d = 0x01), n := true, h := decide ((s.readTarget d).toNat % 16 = 0), c := s.flagC }) := by
  rw [dec8_next, decFlags_eq, State.flags]

/-- Settles O34: every form is `aluA` at its operand, and `aluA` of the three operations is arithmetic on the numbers. -/
theorem addSubtractCompare : Obligations.AddSubtractCompare :=
  ⟨forAluForms_of_aluA fun _ v _ _ hrow hexec => ⟨hrow, fun s => (hexec s).trans (aluA_add (v s) s)⟩,
    forAluForms_of_aluA fun _ v _ _ hrow hexec => ⟨hrow, fun s => (hexec s).trans (aluA_sub (v s) s)⟩,
    forAluForms_of_aluA fun _ v _ _ hrow hexec => ⟨hrow, fun s => (hexec s).trans (aluA_cp (v s) s)⟩⟩

/-- Settles O37: every row is `inc8` or `dec8` of its target, a register or the byte at HL. -/
theorem incrementDecrement : Obligations.IncrementDecrement :=
  ⟨fun dst => ⟨rowIs_incReg dst, fun s => (exec_incReg dst s).trans (inc8_eq (.reg dst) s)⟩,
    ⟨rowIs_of_columns rfl rfl rfl rfl, inc8_eq .mhl⟩,
    fun dst => ⟨rowIs_decReg dst, fun s => (exec_decReg dst s).trans (dec8_eq (.reg dst) s)⟩,
    ⟨rowIs_of_columns rfl rfl rfl rfl, dec8_eq .mhl⟩⟩

/-- CPL's exclusive or with 0xFF is the complement of A (R126). -/
theorem exec_cpl_eq (s : State) : exec .cpl s =
    .next ((s.setA (~~~s.regs.a)).setFlags { z := s.flagZ, n := true, h := true, c := s.flagC }) := by
  have hnot : s.regs.a ^^^ 0xFF = ~~~s.regs.a := BitVec.xor_allOnes
  exact complementA_next.2 (by rw [hnot, State.flags])

/-- Settles O40: CPL complements A and keeps Z and C; SCF and CCF are `writeCarry` of 1 and of the toggled carry. -/
theorem complementAndCarry : Obligations.ComplementAndCarry :=
  ⟨rowIs_of_columns rfl rfl rfl rfl, rowIs_of_columns rfl rfl rfl rfl, rowIs_of_columns rfl rfl rfl rfl,
    fun s => ⟨exec_cpl_eq s, writeCarry_next.2 rfl, writeCarry_next.2 rfl⟩⟩

end Sys2Proof.Machine
end

section
/-! ADD HL,rr and the signed offset to SP (spec/42_alu16.md R133, R134) as arithmetic on the operands' numbers. -/

namespace Sys2Proof.Machine

/-- Masking with the low `n` bits is the remainder modulo `2 ^ n`. -/
theorem toNat_and_lowMask {w n : Nat} {m : BitVec w} (hm : m.toNat = 2 ^ n - 1) (v : BitVec w) :
    (v &&& m).toNat = v.toNat % 2 ^ n := by
  rw [BitVec.toNat_and, hm, Nat.and_two_pow_sub_one_eq_mod]

/-- H is the carry out of bit 11, C the carry out of bit 15; Z is the old one. -/
theorem addHlFlags_eq (h v : Word) (old : Flags) : addHlFlags h v old =
    { z := old.z, n := false, h := decide (h.toNat % 4096 + v.toNat % 4096 > 4095),
      c := decide (h.toNat + v.toNat > 65535) } := by
  have hlow (u : Word) : (u &&& 0x0FFF).toNat = u.toNat % 4096 := toNat_and_lowMask (n := 12) rfl u
  rw [addHlFlags, hlow, hlow]

/-- The sum takes the offset signed; H and C take it unsigned, from bits 3 and 7 of SP's low byte. -/
theorem spAddE8_eq (sp : Word) (e : Byte) : spAddE8 sp e =
    (BitVec.ofInt 16 (sp.toNat + e.toInt),
      { z := false, n := false, h := decide (sp.toNat % 16 + e.toNat % 16 > 15),
        c := decide (sp.toNat % 256 + e.toNat > 255) }) := by
  have hnibble : (sp &&& 0x0F).toNat = sp.toNat % 16 := toNat_and_lowMask (n := 4) rfl sp
  have hbyte : (sp &&& 0xFF).toNat = sp.toNat % 256 := toNat_and_lowMask (n := 8) rfl sp
  rw [spAddE8, add_sext16, hnibble, hbyte, nibble_toNat]

theorem addHl_eq (v : Word) (s : State) : addHl v s =
    .next ((s.setHl (BitVec.ofNat 16 (s.hl.toNat + v.toNat))).setFlags
      { z := s.flagZ, n := false, h := decide (s.hl.toNat % 4096 + v.toNat % 4096 > 4095),
        c := decide (s.hl.toNat + v.toNat > 65535) }) := by
  rw [addHl_next, addHlFlags_eq, BitVec.add_def, State.flags]

theorem addSpTo_eq (p : Pair) (e : Byte) (s : State) : addSpTo p e s =
    .next ((s.setPair p (BitVec.ofInt 16 (s.sp.toNat + e.toInt))).setFlags
      { z := false, n := false, h := decide (s.sp.toNat % 16 + e.toNat % 16 > 15),
        c := decide (s.sp.toNat % 256 + e.toNat > 255) }) := by
  rw [addSpTo_next, spAddE8_eq]

end Sys2Proof.Machine
end

section
/-! The rows of the 16-bit arithmetic by their pair (spec/42_alu16.md R131-R136), and O41 and O42. -/

namespace Sys2Proof.Machine

theorem rowIs_incPair (p : Pair) : RowIs (incPair p) [BitVec.ofNat 8 (0x03 + 16 * p.code)] 8 := by
  cases p <;> exact rowIs_of_columns rfl rfl rfl rfl

theorem rowIs_decPair (p : Pair) : RowIs (decPair p) [BitVec.ofNat 8 (0x0B + 16 * p.code)] 8 := by
  cases p <;> exact rowIs_of_columns rfl rfl rfl rfl

theorem rowIs_addHlPair (p : Pair) : RowIs (addHlPair p) [BitVec.ofNat 8 (0x09 + 16 * p.code)] 8 := by
  cases p <;> exact rowIs_of_columns rfl rfl rfl rfl

theorem exec_incPair (p : Pair) (s : State) : exec (incPair p) s = .next (s.setPair p (s.getPair p + 1)) := by
  cases p <;> exact ld16_next.2 rfl

theorem exec_decPair (p : Pair) (s : State) : exec (decPair p) s = .next (s.setPair p (s.getPair p - 1)) := by
  cases p <;> exact ld16_next.2 rfl

theorem exec_addHlPair (p : Pair) (s : State) : exec (addHlPair p) s = addHl (s.getPair p) s := by
  cases p <;> rfl

/-- Settles O41: INC rr and DEC rr are `ld16` of the stepped pair, and ADD HL,rr is `addHl` of the pair's value. -/
theorem pairArithmetic : Obligations.PairArithmetic :=
  ⟨fun p => ⟨rowIs_incPair p, exec_incPair p⟩,
    fun p => ⟨rowIs_decPair p, exec_decPair p⟩,
    fun p => ⟨rowIs_addHlPair p, fun s => (exec_addHlPair p s).trans (addHl_eq (s.getPair p) s)⟩⟩

/-- Settles O42: the two rows are `addSpTo` of SP and of HL. -/
theorem stackPointerOffset : Obligations.StackPointerOffset :=
  fun e => ⟨rowIs_of_columns rfl rfl rfl rfl, rowIs_of_columns rfl rfl rfl rfl,
    fun s => ⟨addSpTo_eq .sp e s, addSpTo_eq .hl e s⟩⟩

end Sys2Proof.Machine
end

section
/-! The moves by one bit and the nibble exchange (spec/43_rotate_shift.md R138-R158) as two fields side by side: seven bits
and the bit brought in at the free end, or two nibbles. -/

namespace Sys2Proof

/-- Two fields, each shifted to its place, are joined by `or`. -/
theorem append_zero_or_zero_append {w n : Nat} (x : BitVec w) (y : BitVec n) : (x ++ 0#n) ||| (0#w ++ y) = x ++ y := by
  rw [BitVec.or_append, BitVec.or_zero, BitVec.zero_or]

theorem extractLsb'_one_eq_ofBool {w : Nat} (v : BitVec w) (i : Nat) : v.extractLsb' i 1 = BitVec.ofBool (v.getLsbD i) := by
  ext j hj
  simp [Nat.lt_one_iff.1 hj]

theorem shiftLeft_one_or_bit (v : Byte) (b : Bool) :
    (v <<< 1) ||| (if b then 0x01 else 0) = v.extractLsb' 0 7 ++ BitVec.ofBool b := by
  have hshift : v <<< 1 = v.extractLsb' 0 7 ++ 0#1 := BitVec.shiftLeft_eq_concat_of_lt (by decide)
  have hbit : (if b then 0x01 else 0 : Byte) = 0#7 ++ BitVec.ofBool b := by cases b <;> rfl
  rw [hshift, hbit, append_zero_or_zero_append]

theorem shiftRight_one_or_bit (v : Byte) (b : Bool) :
    (v >>> 1) ||| (if b then 0x80 else 0) = BitVec.ofBool b ++ v.extractLsb' 1 7 := by
  have hshift : v >>> 1 = 0#1 ++ v.extractLsb' 1 7 := BitVec.ushiftRight_eq_extractLsb'_of_lt (by decide)
  have hbit : (if b then 0x80 else 0 : Byte) = BitVec.ofBool b ++ 0#7 := by cases b <;> rfl
  rw [hshift, hbit, BitVec.or_comm, append_zero_or_zero_append]

theorem rotateLeft_one_eq (v : Byte) : v.rotateLeft 1 = v.extractLsb' 0 7 ++ BitVec.ofBool (v.getLsbD 7) := by
  have hshift : v <<< 1 = v.extractLsb' 0 7 ++ 0#1 := BitVec.shiftLeft_eq_concat_of_lt (by decide)
  have hbit : v >>> 7 = 0#7 ++ v.extractLsb' 7 1 := BitVec.ushiftRight_eq_extractLsb'_of_lt (by decide)
  calc v.rotateLeft 1 = v <<< 1 ||| v >>> 7 := rfl
    _ = _ := by rw [hshift, hbit, append_zero_or_zero_append, extractLsb'_one_eq_ofBool]

theorem rotateRight_one_eq (v : Byte) : v.rotateRight 1 = BitVec.ofBool (v.getLsbD 0) ++ v.extractLsb' 1 7 := by
  have hshift : v >>> 1 = 0#1 ++ v.extractLsb' 1 7 := BitVec.ushiftRight_eq_extractLsb'_of_lt (by decide)
  have hbit : v <<< 7 = v.extractLsb' 0 1 ++ 0#7 := BitVec.shiftLeft_eq_concat_of_lt (by decide)
  calc v.rotateRight 1 = v >>> 1 ||| v <<< 7 := rfl
    _ = _ := by rw [hshift, hbit, BitVec.or_comm, append_zero_or_zero_append, extractLsb'_one_eq_ofBool]

theorem sshiftRight_one_eq (v : Byte) : v.sshiftRight 1 = BitVec.ofBool (v.getLsbD 7) ++ v.extractLsb' 1 7 := by
  refine BitVec.eq_of_getLsbD_eq fun i hi => ?_
  rw [BitVec.getLsbD_append, BitVec.getLsbD_sshiftRight, BitVec.msb_eq_getLsbD_last]
  by_cases hlow : i < 7
  · simp [hi, hlow, show 1 + i < 8 by omega]
  · simp [show i = 7 by omega]

theorem nibbles_exchanged_eq (v : Byte) :
    ((v &&& 0x0F) <<< 4) ||| (v >>> 4) = v.extractLsb' 0 4 ++ v.extractLsb' 4 4 := by
  have hlow : (v &&& 0x0F) <<< 4 = (v &&& 0x0F).extractLsb' 0 4 ++ 0#4 := BitVec.shiftLeft_eq_concat_of_lt (by decide)
  have hhigh : v >>> 4 = 0#4 ++ v.extractLsb' 4 4 := BitVec.ushiftRight_eq_extractLsb'_of_lt (by decide)
  have hmask : (v &&& 0x0F).extractLsb' 0 4 = v.extractLsb' 0 4 := by
    rw [BitVec.extractLsb'_and]
    exact BitVec.and_allOnes
  rw [hlow, hhigh, hmask, append_zero_or_zero_append]

end Sys2Proof
end

section
/-! When a move by one bit or the nibble exchange gives 0 (spec/43_rotate_shift.md R142): both fields are 0. -/

namespace Sys2Proof

theorem append_eq_zero_iff {w n : Nat} (x : BitVec w) (y : BitVec n) : x ++ y = 0 ↔ x = 0 ∧ y = 0 := by
  simp [← BitVec.toNat_inj, BitVec.toNat_append]

theorem extractLsb'_eq_zero_iff {w : Nat} (v : BitVec w) (start len : Nat) :
    v.extractLsb' start len = 0 ↔ v.toNat / 2 ^ start % 2 ^ len = 0 := by
  simp [← BitVec.toNat_inj, Nat.shiftRight_eq_div_pow]

theorem ofBool_eq_zero_iff (b : Bool) : BitVec.ofBool b = 0 ↔ b = false := BitVec.ofBool_eq_iff_eq (b' := false)

theorem getLsbD_seven_eq (v : Byte) : v.getLsbD 7 = decide (128 ≤ v.toNat) :=
  (BitVec.msb_eq_getLsbD_last v).symm.trans (BitVec.msb_eq_decide v)

theorem getLsbD_zero_eq (v : Byte) : v.getLsbD 0 = decide (v.toNat % 2 = 1) := Nat.testBit_zero v.toNat

theorem lowSeven_append_bit_eq_zero_iff (v : Byte) (b : Bool) :
    v.extractLsb' 0 7 ++ BitVec.ofBool b = 0 ↔ v.toNat % 128 = 0 ∧ b = false := by
  rw [append_eq_zero_iff (v.extractLsb' 0 7), extractLsb'_eq_zero_iff, ofBool_eq_zero_iff, pow_zero, Nat.div_one]
  rfl

theorem bit_append_highSeven_eq_zero_iff (v : Byte) (b : Bool) :
    BitVec.ofBool b ++ v.extractLsb' 1 7 = 0 ↔ v.toNat / 2 = 0 ∧ b = false := by
  have hmod : v.toNat / 2 ^ 1 % 2 ^ 7 = v.toNat / 2 := by omega
  rw [append_eq_zero_iff (BitVec.ofBool b), extractLsb'_eq_zero_iff, ofBool_eq_zero_iff, hmod, and_comm]

/-- A circular rotation loses no bit: the one that leaves comes in again. -/
theorem rotateLeft_one_eq_zero_iff (v : Byte) : v.rotateLeft 1 = 0 ↔ v = 0 := by
  rw [rotateLeft_one_eq, lowSeven_append_bit_eq_zero_iff, getLsbD_seven_eq, decide_eq_false_iff_not]
  bv_omega

theorem rotateRight_one_eq_zero_iff (v : Byte) : v.rotateRight 1 = 0 ↔ v = 0 := by
  rw [rotateRight_one_eq, bit_append_highSeven_eq_zero_iff, getLsbD_zero_eq, decide_eq_false_iff_not]
  bv_omega

/-- Bit 7, which comes in again, is one of the seven bits kept. -/
theorem sshiftRight_one_eq_zero_iff (v : Byte) : v.sshiftRight 1 = 0 ↔ v.toNat / 2 = 0 := by
  rw [sshiftRight_one_eq, bit_append_highSeven_eq_zero_iff, getLsbD_seven_eq, decide_eq_false_iff_not]
  omega

theorem nibbles_exchanged_eq_zero_iff (v : Byte) : v.extractLsb' 0 4 ++ v.extractLsb' 4 4 = (0 : Byte) ↔ v = 0 := by
  rw [append_eq_zero_iff (v.extractLsb' 0 4), extractLsb'_eq_zero_iff, extractLsb'_eq_zero_iff]
  bv_omega

theorem ofNat_double_eq_zero_iff (v : Byte) : BitVec.ofNat 8 (2 * v.toNat) = 0 ↔ v.toNat % 128 = 0 := by
  bv_omega

theorem ofNat_half_eq_zero_iff (v : Byte) : BitVec.ofNat 8 (v.toNat / 2) = 0 ↔ v.toNat / 2 = 0 := by
  bv_omega

end Sys2Proof
end

section
/-! What each rotate and shift gives (spec/43_rotate_shift.md R138-R158), in the words of the statements, and the rows of
the family by their operands: every row is `rot` of its target. -/

namespace Sys2Proof.Machine

theorem rotResult_rlc (v : Byte) (cin : Bool) : rotResult .rlc v cin = (v.rotateLeft 1, v.getLsbD 7) := by
  rw [rotResult, shiftLeft_one_or_bit, rotateLeft_one_eq]

theorem rotResult_rrc (v : Byte) (cin : Bool) : rotResult .rrc v cin = (v.rotateRight 1, v.getLsbD 0) := by
  rw [rotResult, shiftRight_one_or_bit, rotateRight_one_eq]

theorem rotResult_rl (v : Byte) (cin : Bool) :
    rotResult .rl v cin = (v.extractLsb' 0 7 ++ BitVec.ofBool cin, v.getLsbD 7) := by
  rw [rotResult, shiftLeft_one_or_bit]

theorem rotResult_rr (v : Byte) (cin : Bool) :
    rotResult .rr v cin = (BitVec.ofBool cin ++ v.extractLsb' 1 7, v.getLsbD 0) := by
  rw [rotResult, shiftRight_one_or_bit]

theorem rotResult_sla (v : Byte) (cin : Bool) : rotResult .sla v cin = (BitVec.ofNat 8 (2 * v.toNat), v.getLsbD 7) := by
  have hdouble : v <<< 1 = BitVec.ofNat 8 (2 * v.toNat) := by bv_omega
  rw [rotResult, hdouble]

/-- SRA is a right shift that brings bit 7 in again. -/
theorem rotResult_sra (v : Byte) (cin : Bool) : rotResult .sra v cin = (v.sshiftRight 1, v.getLsbD 0) := by
  have hkept : v &&& 0x80 = if v.getLsbD 7 then 0x80 else 0 := BitVec.and_twoPow v 7
  rw [rotResult, hkept, shiftRight_one_or_bit, sshiftRight_one_eq]

theorem rotResult_swap (v : Byte) (cin : Bool) :
    rotResult .swap v cin = (v.extractLsb' 0 4 ++ v.extractLsb' 4 4, false) := by
  rw [rotResult, nibbles_exchanged_eq]

theorem rotResult_srl (v : Byte) (cin : Bool) : rotResult .srl v cin = (BitVec.ofNat 8 (v.toNat / 2), v.getLsbD 0) := by
  have hhalf : v >>> 1 = BitVec.ofNat 8 (v.toNat / 2) := by bv_omega
  rw [rotResult, hhalf]

/-- An accumulator form writes the result to A and clears Z, N and H. -/
theorem rotA_eq {op : RotOp} {s : State} {r : Byte} {c : Bool} (hr : rotResult op s.regs.a s.flagC = (r, c)) :
    rotA op s = .next ((s.setA r).setFlags { z := false, n := false, h := false, c := c }) := by
  rw [rotA_next, hr]

/-- A form on a target writes the result there; Z says whether it is 0. -/
theorem rot_eq {op : RotOp} {d : Target8} {s : State} {r : Byte} {c : Bool} {p : Prop} [Decidable p]
    (hr : rotResult op (s.readTarget d) s.flagC = (r, c)) (hz : r = 0 ↔ p) :
    rot op d s = .next ((s.writeTarget d r).setFlags { z := decide p, n := false, h := false, c := c }) := by
  have hflag : (r == 0) = decide p := by rw [beq_eq_decide, decide_eq_decide, hz]
  rw [rot_next, hr, rotFlags, hflag]

theorem rowIs_rotReg (op : RotOp) (r : Reg8) :
    RowIs (rotReg op r) [0xCB, BitVec.ofNat 8 (8 * op.code + r.code)] 8 := by
  cases op <;> cases r <;> exact rowIs_of_columns rfl rfl rfl rfl

theorem rowIs_rotMhl (op : RotOp) : RowIs (rotMhl op) [0xCB, BitVec.ofNat 8 (8 * op.code + 6)] 16 := by
  cases op <;> exact rowIs_of_columns rfl rfl rfl rfl

theorem exec_rotReg (op : RotOp) (r : Reg8) (s : State) : exec (rotReg op r) s = rot op (.reg r) s := by
  cases op <;> cases r <;> rfl

theorem exec_rotMhl (op : RotOp) (s : State) : exec (rotMhl op) s = rot op .mhl s := by
  cases op <;> rfl

/-- What `rot op` answers on every target is what every row of the operation does. -/
theorem forRotTargets_of_rot {op : RotOp} {u : Target8 → State → State} (h : ∀ d s, rot op d s = .next (u d s)) :
    ForRotTargets op (fun i d bytes cycles => RowIs i bytes cycles ∧ ∀ s : State, exec i s = .next (u d s)) :=
  ⟨fun r => ⟨rowIs_rotReg op r, fun s => (exec_rotReg op r s).trans (h (.reg r) s)⟩,
    rowIs_rotMhl op, fun s => (exec_rotMhl op s).trans (h .mhl s)⟩

end Sys2Proof.Machine
end

section
/-! The statements of spec/43_rotate_shift.md: O43, O44 and O45. -/

namespace Sys2Proof.Machine

/-- Settles O43: the four rows are `rotA` of the two circular rotations and of the two through the carry. -/
theorem accumulatorRotates : Obligations.AccumulatorRotates :=
  ⟨rowIs_of_columns rfl rfl rfl rfl, rowIs_of_columns rfl rfl rfl rfl, rowIs_of_columns rfl rfl rfl rfl,
    rowIs_of_columns rfl rfl rfl rfl,
    fun _ => ⟨rotA_eq (rotResult_rlc _ _), rotA_eq (rotResult_rl _ _), rotA_eq (rotResult_rrc _ _),
      rotA_eq (rotResult_rr _ _)⟩⟩

/-- Settles O44: every row is `rot` of its target; a circular rotation is 0 only from 0, one through the carry when the
seven bits kept and the carry are. -/
theorem rotatesOnTargets : Obligations.RotatesOnTargets :=
  ⟨forRotTargets_of_rot fun _ _ => rot_eq (rotResult_rlc _ _) (rotateLeft_one_eq_zero_iff _),
    forRotTargets_of_rot fun _ _ => rot_eq (rotResult_rrc _ _) (rotateRight_one_eq_zero_iff _),
    forRotTargets_of_rot fun _ _ => rot_eq (rotResult_rl _ _) (lowSeven_append_bit_eq_zero_iff _ _),
    forRotTargets_of_rot fun _ _ => rot_eq (rotResult_rr _ _) (bit_append_highSeven_eq_zero_iff _ _)⟩

/-- Settles O45: every row is `rot` of its target; a shift is 0 when the seven bits kept are, the exchange only from 0. -/
theorem shiftsOnTargets : Obligations.ShiftsOnTargets :=
  ⟨forRotTargets_of_rot fun _ _ => rot_eq (rotResult_sla _ _) (ofNat_double_eq_zero_iff _),
    forRotTargets_of_rot fun _ _ => rot_eq (rotResult_sra _ _) (sshiftRight_one_eq_zero_iff _),
    forRotTargets_of_rot fun _ _ => rot_eq (rotResult_swap _ _) (nibbles_exchanged_eq_zero_iff _),
    forRotTargets_of_rot fun _ _ => rot_eq (rotResult_srl _ _) (ofNat_half_eq_zero_iff _)⟩

end Sys2Proof.Machine
end

section
/-! The eight bits of a byte after one is cleared or set through its mask (spec/44_bit.md R161-R164). -/

namespace Sys2Proof

theorem getLsbD_bitMask (b : Nat) {k : Nat} (hk : k < 8) : (bitMask b).getLsbD k = decide (k = b) := by
  have hpow : (bitMask b).getLsbD k = (decide (b < 8) && decide (b = k)) := BitVec.getLsbD_twoPow b k
  rw [hpow, ← Bool.decide_and, decide_eq_decide]
  omega

theorem getLsbD_and_not_bitMask (v : Byte) (b : Nat) {k : Nat} (hk : k < 8) :
    (v &&& ~~~bitMask b).getLsbD k = if k = b then false else v.getLsbD k := by
  rw [BitVec.getLsbD_and, BitVec.getLsbD_not, getLsbD_bitMask b hk]
  by_cases hb : k = b <;> simp [hb, hk]

theorem getLsbD_or_bitMask (v : Byte) (b : Nat) {k : Nat} (hk : k < 8) :
    (v ||| bitMask b).getLsbD k = if k = b then true else v.getLsbD k := by
  rw [BitVec.getLsbD_or, getLsbD_bitMask b hk]
  by_cases hb : k = b <;> simp [hb]

end Sys2Proof
end

section
/-! The rows of BIT, RES and SET by their bit and target (spec/44_bit.md R159-R164): every row is one shared operation. -/

namespace Sys2Proof.Machine

theorem rowIs_bitReg (b : Fin 8) (r : Reg8) :
    RowIs (bitReg b r) [0xCB, BitVec.ofNat 8 (0x40 + 8 * b.val + r.code)] 8 := by
  fin_cases b <;> cases r <;> exact rowIs_of_columns rfl rfl rfl rfl

theorem rowIs_resReg (b : Fin 8) (r : Reg8) :
    RowIs (resReg b r) [0xCB, BitVec.ofNat 8 (0x80 + 8 * b.val + r.code)] 8 := by
  fin_cases b <;> cases r <;> exact rowIs_of_columns rfl rfl rfl rfl

theorem rowIs_setReg (b : Fin 8) (r : Reg8) :
    RowIs (setReg b r) [0xCB, BitVec.ofNat 8 (0xC0 + 8 * b.val + r.code)] 8 := by
  fin_cases b <;> cases r <;> exact rowIs_of_columns rfl rfl rfl rfl

theorem rowIs_bitMhl (b : Fin 8) : RowIs (bitMhl b) [0xCB, BitVec.ofNat 8 (0x46 + 8 * b.val)] 12 := by
  fin_cases b <;> exact rowIs_of_columns rfl rfl rfl rfl

theorem rowIs_resMhl (b : Fin 8) : RowIs (resMhl b) [0xCB, BitVec.ofNat 8 (0x86 + 8 * b.val)] 16 := by
  fin_cases b <;> exact rowIs_of_columns rfl rfl rfl rfl

theorem rowIs_setMhl (b : Fin 8) : RowIs (setMhl b) [0xCB, BitVec.ofNat 8 (0xC6 + 8 * b.val)] 16 := by
  fin_cases b <;> exact rowIs_of_columns rfl rfl rfl rfl

theorem exec_bitReg (b : Fin 8) (r : Reg8) (s : State) : exec (bitReg b r) s = testBit b.val (.reg r) s := by
  fin_cases b <;> cases r <;> rfl

theorem exec_resReg (b : Fin 8) (r : Reg8) (s : State) : exec (resReg b r) s = resetBit b.val (.reg r) s := by
  fin_cases b <;> cases r <;> rfl

theorem exec_setReg (b : Fin 8) (r : Reg8) (s : State) : exec (setReg b r) s = setBit b.val (.reg r) s := by
  fin_cases b <;> cases r <;> rfl

theorem exec_bitMhl (b : Fin 8) (s : State) : exec (bitMhl b) s = testBit b.val .mhl s := by
  fin_cases b <;> rfl

theorem exec_resMhl (b : Fin 8) (s : State) : exec (resMhl b) s = resetBit b.val .mhl s := by
  fin_cases b <;> rfl

theorem exec_setMhl (b : Fin 8) (s : State) : exec (setMhl b) s = setBit b.val .mhl s := by
  fin_cases b <;> rfl

end Sys2Proof.Machine
end

section
/-! What BIT, RES and SET do to a target, bit by bit, and O46. -/

namespace Sys2Proof.Machine

theorem testBit_eq (b : Nat) (d : Target8) (s : State) :
    testBit b d s = .next (s.setFlags { z := !(s.readTarget d).getLsbD b, n := false, h := true, c := s.flagC }) :=
  testBit_next.2 rfl

theorem resetBit_clears_one_bit (b : Nat) (d : Target8) (s : State) :
    ∃ v : Byte, resetBit b d s = .next (s.writeTarget d v) ∧
      ∀ k < 8, v.getLsbD k = if k = b then false else (s.readTarget d).getLsbD k :=
  ⟨_, resetBit_next.2 rfl, fun _ => getLsbD_and_not_bitMask _ b⟩

theorem setBit_sets_one_bit (b : Nat) (d : Target8) (s : State) :
    ∃ v : Byte, setBit b d s = .next (s.writeTarget d v) ∧
      ∀ k < 8, v.getLsbD k = if k = b then true else (s.readTarget d).getLsbD k :=
  ⟨_, setBit_next.2 rfl, fun _ => getLsbD_or_bitMask _ b⟩

/-- Settles O46: every row is `testBit`, `resetBit` or `setBit` of its target, and the mask of bit b touches no other bit. -/
theorem bitOperations : Obligations.BitOperations :=
  ⟨fun b r => ⟨rowIs_bitReg b r, rowIs_resReg b r, rowIs_setReg b r, fun s =>
      ⟨(exec_bitReg b r s).trans (testBit_eq b (.reg r) s),
        exec_resReg b r s ▸ resetBit_clears_one_bit b (.reg r) s,
        exec_setReg b r s ▸ setBit_sets_one_bit b (.reg r) s⟩⟩,
    fun b => ⟨rowIs_bitMhl b, rowIs_resMhl b, rowIs_setMhl b, fun s =>
      ⟨(exec_bitMhl b s).trans (testBit_eq b .mhl s),
        exec_resMhl b s ▸ resetBit_clears_one_bit b .mhl s,
        exec_setMhl b s ▸ setBit_sets_one_bit b .mhl s⟩⟩⟩

end Sys2Proof.Machine
end

section
/-! Push16 and Pop16 (spec/46_stack.md R181, R183) as one equation each: SP moves once, by two. -/

namespace Sys2Proof.Machine

/-- A store neither reads nor writes SP. -/
theorem State.memWrite_withSp (s : State) (p a : Word) (v : Byte) :
    ({ s with sp := p } : State).memWrite a v = { s.memWrite a v with sp := p } := by
  unfold State.memWrite; repeat' split
  all_goals rfl

theorem State.push16_eq (s : State) (v : Word) : s.push16 v =
    (({ s with sp := s.sp - 2 }).memWrite (s.sp - 1) (v.extractLsb' 8 8)).memWrite (s.sp - 2) (v.extractLsb' 0 8) := by
  have hsp : s.sp - 1 - 1 = s.sp - 2 := BitVec.sub_sub s.sp 1 1
  simp only [State.push16, State.memWrite_withSp, hsp, Word.hi, Word.lo]

theorem State.pop16_eq (s : State) : s.pop16 = { s with sp := s.sp + 2 } := by
  rw [State.pop16, BitVec.add_assoc]
  rfl

end Sys2Proof.Machine
end

section
/-! The rows of PUSH and POP by their pair (spec/46_stack.md R182, R184), and O50. -/

namespace Sys2Proof.Machine

theorem rowIs_pushPair (q : StackPair) : RowIs (pushPair q) [BitVec.ofNat 8 (0xC5 + 16 * q.code)] 16 := by
  cases q <;> exact rowIs_of_columns rfl rfl rfl rfl

theorem rowIs_popPair (q : StackPair) : RowIs (popPair q) [BitVec.ofNat 8 (0xC1 + 16 * q.code)] 12 := by
  cases q <;> exact rowIs_of_columns rfl rfl rfl rfl

theorem exec_pushPair (q : StackPair) (s : State) : exec (pushPair q) s = .next (s.push16 (s.getStackPair q)) := by
  cases q <;> exact push_next.2 rfl

theorem exec_popPair (q : StackPair) (s : State) :
    exec (popPair q) s = .next (s.pop16.setStackPair q s.pop16Value) := by
  cases q <;> exact pop_next.2 rfl

/-- Settles O50: PUSH rr is `push16` of the pair, POP rr writes the pair with what `pop16` read. -/
theorem pushAndPop : Obligations.PushAndPop :=
  ⟨fun q => ⟨rowIs_pushPair q, fun s => by rw [exec_pushPair, State.push16_eq]⟩,
    fun q => ⟨rowIs_popPair q, fun s => by rw [exec_popPair, State.pop16_eq, State.pop16Value, mkWord]⟩,
    fun s v => ⟨State.setAf_regs_a s v, State.setAf_regs_f s v⟩⟩

end Sys2Proof.Machine
end

section
/-! The decoder and the encoder as inverses (spec/30_encoding.md R53, R63-R65): the rows of the two tables encode to the
bytes that select them, and every instruction decodes from its own encoding. -/

namespace Sys2Proof

/-- The instruction of a cell, given one operand byte and one operand word; a cell uses at most one of them. -/
def Cell.complete (b : Byte) (w : Word) : Cell → Instr
  | .p1 i => i
  | .p2 f => f b
  | .p3 f => f w

/-- The operand bytes of what `Cell.complete` gives. -/
def Cell.operandBytes (b : Byte) (w : Word) : Cell → List Byte
  | .p1 _ => []
  | .p2 _ => [b]
  | .p3 _ => [w.lo, w.hi]

/-- The two bytes after the opcode complete a cell as its one operand does. -/
theorem Cell.read_eq_complete (c : Cell) (b1 b2 : Byte) : c.read b1 b2 = c.complete b1 (mkWord b2 b1) := by
  cases c <;> rfl

/-- What a decoded list is: an opcode byte, the operand bytes of its cell, and the rest. -/
theorem bytes_of_decode {bytes rest : List Byte} {i : Instr} (h : decode bytes = .ok (i, rest)) :
    ∃ op b w, bytes = op :: (primaryTable op).operandBytes b w ++ rest ∧ i = (primaryTable op).complete b w := by
  match bytes with
  | [] => cases h
  | op :: tail =>
    cases hc : primaryTable op <;> simp only [decode, hc] at h
    case p1 =>
      cases h
      exact ⟨op, 0, 0, by simp [hc, Cell.operandBytes, Cell.complete]⟩
    case p2 =>
      match tail with
      | [] => cases h
      | b1 :: _ =>
        cases h
        exact ⟨op, b1, 0, by simp [hc, Cell.operandBytes, Cell.complete]⟩
    case p3 =>
      match tail with
      | [] => cases h
      | [_] => cases h
      | b1 :: b2 :: _ =>
        cases h
        exact ⟨op, 0, mkWord b2 b1, by simp [hc, Cell.operandBytes, Cell.complete]⟩

/-- Bytes after an instruction's own do not change what it decodes to. -/
theorem decode_append {bytes rest : List Byte} {i : Instr} (h : decode bytes = .ok (i, rest)) (more : List Byte) :
    decode (bytes ++ more) = .ok (i, rest ++ more) := by
  obtain ⟨op, b, w, rfl, rfl⟩ := bytes_of_decode h
  cases hc : primaryTable op <;> simp [decode, hc, Cell.operandBytes, Cell.complete]

/-- Every row of CB_TABLE is a well-formed instruction, encoded by 0xCB and the byte that selects it (R64). -/
theorem cbTable_encodes : ∀ la : Byte, (cbTable la).wf = true ∧ encode (cbTable la) = [0xCB, la] := by
  decide

/-- Every row of PRIMARY_TABLE is a well-formed instruction, encoded by the opcode byte and its operand bytes (R63). -/
theorem primaryTable_encodes (op b : Byte) (w : Word) :
    ((primaryTable op).complete b w).wf = true ∧
      encode ((primaryTable op).complete b w) = op :: (primaryTable op).operandBytes b w := by
  obtain ⟨n, hn, rfl⟩ : ∃ n < 256, op = BitVec.ofNat 8 n := ⟨op.toNat, op.isLt, by simp⟩
  rcases Nat.lt_trichotomy n 0xCB with h | rfl | h
  · interval_cases n <;> exact ⟨rfl, rfl⟩
  · exact cbTable_encodes b
  · interval_cases n <;> exact ⟨rfl, rfl⟩

/-- The encoding of what three bytes decode to begins with the first of them. -/
theorem encode_decode3 (op b1 b2 : Byte) : (encode (decode3 op b1 b2)).head? = some op := by
  rw [decode3, Cell.read_eq_complete, (primaryTable_encodes op _ _).2]
  rfl

/-- An instruction decodes from its own encoding; the two bytes of a word operand make the word again. -/
theorem decode_encode {i : Instr} (h : i.wf = true) : decode (encode i) = .ok (i, []) := by
  cases i
  case prefix_cb => cases h
  case ld_bc_n16 w | ld_de_n16 w | ld_hl_n16 w | ld_sp_n16 w | ld_ma16_sp w | ld_ma16_a w | ld_a_ma16 w | jp_a16 w |
      jp_nz_a16 w | jp_z_a16 w | jp_nc_a16 w | jp_c_a16 w | call_a16 w | call_nz_a16 w | call_z_a16 w |
      call_nc_a16 w | call_c_a16 w =>
    exact congrArg (fun v => Except.ok (_, [])) (mkWord_hi_lo w)
  all_goals rfl

end Sys2Proof
end

section
/-! The statements about decoding and encoding: O10, O11, O12, O13 and O55. -/

namespace Sys2Proof.Machine

/-- Settles O10: an instruction decodes from its own encoding, and what follows does not change that. -/
theorem decodeEncodeRoundTrip : Obligations.DecodeEncodeRoundTrip :=
  fun _ rest hwf => decode_append (decode_encode hwf) rest

/-- Settles O11: what is decoded completes a row of PRIMARY_TABLE, and every row encodes to its bytes. -/
theorem decodedBytesAreTheEncoding : Obligations.DecodedBytesAreTheEncoding := by
  intro bytes rest i h
  obtain ⟨op, b, w, rfl, rfl⟩ := bytes_of_decode h
  obtain ⟨hwf, hencode⟩ := primaryTable_encodes op b w
  exact ⟨hwf, by rw [hencode]⟩

/-- Settles O12: each family's byte, for every value of its fields, is the index of its row. -/
theorem fieldsSelectRows : Obligations.FieldsSelectRows := by
  refine ⟨fun dst r n m => ?_, fun op r n m => ?_, fun p lo hi => ?_, fun q n m => ?_, fun cc lo hi => ?_, fun k n m => ?_,
    fun op r m => ?_, fun b r m => ?_⟩
  · refine ⟨?_, ?_, ?_, ?_, ?_, ?_⟩
    · cases dst <;> cases r <;> rfl
    · cases dst <;> rfl
    · cases r <;> rfl
    · cases dst <;> rfl
    · cases dst <;> rfl
    · cases dst <;> rfl
  · refine ⟨?_, ?_, ?_⟩
    · cases op <;> cases r <;> rfl
    · cases op <;> rfl
    · cases op <;> rfl
  · cases p <;> exact ⟨rfl, rfl, rfl, rfl⟩
  · cases q <;> exact ⟨rfl, rfl⟩
  · cases cc <;> exact ⟨rfl, rfl, rfl, rfl⟩
  · fin_cases k <;> rfl
  · refine ⟨?_, ?_⟩
    · cases op <;> cases r <;> rfl
    · cases op <;> rfl
  · fin_cases b <;> cases r <;> exact ⟨rfl, rfl, rfl, rfl, rfl, rfl⟩

/-- Settles O13: the decoder evaluates on each of the words. -/
theorem sampleWordsDecode : Obligations.SampleWordsDecode :=
  ⟨rfl, rfl, rfl, rfl, rfl, rfl, rfl, rfl, rfl, rfl, rfl⟩

/-- Settles O55: STOP's byte and each unassigned byte index their own rows, whose bodies raise in every state. -/
theorem stopAndUnsupportedRaise : Obligations.StopAndUnsupportedRaise := by
  refine ⟨fun n m s => ⟨rfl, rfl⟩, fun p hp n m s => ?_, rfl⟩
  simp only [unsupportedRows, List.mem_cons, List.not_mem_nil, or_false] at hp
  rcases hp with rfl | rfl | rfl | rfl | rfl | rfl | rfl | rfl | rfl | rfl | rfl <;> exact ⟨rfl, rfl, rfl⟩

end Sys2Proof.Machine
end

section
/-! The prefix row (spec/47_system.md R191): its body is the body of the row that its second byte selects, and O56. -/

namespace Sys2Proof.Machine

/-- No row of CB_TABLE is conditional. -/
theorem takenColumn_cbTable : ∀ la : Byte, takenColumn (cbTable la) = none := by
  decide

/-- A well-formed instruction stands for itself. -/
theorem selectedRow_of_wf {i : Instr} (h : i.wf = true) : selectedRow i = i := by
  cases i
  case prefix_cb => cases h
  all_goals rfl

/-- The fields of the second byte give the operation that the selected row names (spec/30_encoding.md R53, R60). -/
theorem cbBody_eq_exec (la : Byte) (s : State) : cbBody la s = exec (cbTable la) s := by
  obtain ⟨n, hn, rfl⟩ : ∃ n < 256, la = BitVec.ofNat 8 n := ⟨la.toNat, la.isLt, by simp⟩
  interval_cases n <;> rfl

/-- Every CB operation completes. -/
theorem cbBody_completes (la : Byte) (s : State) : ∃ t, cbBody la s = .next t := by
  rcases cbBody_cases la s with ⟨op, d, h⟩ | ⟨b, d, h⟩ | ⟨b, d, h⟩ | ⟨b, d, h⟩
  · exact ⟨_, h.trans (rot_next.2 rfl)⟩
  · exact ⟨_, h.trans (testBit_next.2 rfl)⟩
  · exact ⟨_, h.trans (resetBit_next.2 rfl)⟩
  · exact ⟨_, h.trans (setBit_next.2 rfl)⟩

/-- The prefix term costs what the selected row costs (R65). -/
theorem cost_prefix_cb (la : Byte) (s : State) : cost (.prefix_cb la) s = cost (cbTable la) s := by
  rw [cost_of_takenColumn_none rfl, cost_of_takenColumn_none (takenColumn_cbTable la),
    selectedRow_of_wf (cbTable_encodes la).1, selectedRow]

/-- Settles O56: 0xCB indexes the cell that reads CB_TABLE, and the prefix term runs and costs the selected row. -/
theorem prefixRunsSelectedRow : Obligations.PrefixRunsSelectedRow := by
  intro la m
  obtain ⟨hwf, hencode⟩ := cbTable_encodes la
  refine ⟨rfl, hwf, hencode, fun s => ⟨?_, cost_prefix_cb la s⟩⟩
  obtain ⟨t, ht⟩ := cbBody_completes la s
  exact ⟨t, ht, (cbBody_eq_exec la s).symm.trans ht⟩

end Sys2Proof.Machine
end

section
/-! The columns of a row (spec/10_state.md R33, R34; spec/20_memory.md R44) and the shared operation that is its body, in one
table: what a completed instruction may change follows by cases on `exec_rowBody`. -/

namespace Sys2Proof.Machine

/-- The registers a write to a target changes. -/
def targetRegs : Target8 → List Reg8
  | .reg r => [r]
  | .mhl => []

/-- The addresses a write to a target stores to. -/
def targetStores (s : State) : Target8 → List Word
  | .reg _ => []
  | .mhl => [s.hl]

/-- The single registers of a pair of group 1. -/
def pairRegs : Pair → List Reg8
  | .bc => [.b, .c]
  | .de => [.d, .e]
  | .hl => [.h, .l]
  | .sp => []

/-- Whether a pair of group 1 is SP. -/
def pairIsSp : Pair → Bool
  | .sp => true
  | _ => false

/-- The single registers of a pair of group 2; F is not a single register. -/
def stackPairRegs : StackPair → List Reg8
  | .bc => [.b, .c]
  | .de => [.d, .e]
  | .hl => [.h, .l]
  | .af => [.a]

/-- The row of the flags column that keeps all four. -/
def keepFlags : FlagEffects := ⟨.keep, .keep, .keep, .keep⟩

/-- The flags column of an operation of the accumulator. -/
def aluFlags : AluOp → FlagEffects
  | .add | .adc => ⟨.computed, .clear, .computed, .computed⟩
  | .sub | .sbc | .cp => ⟨.computed, .force, .computed, .computed⟩
  | .and => ⟨.computed, .clear, .force, .clear⟩
  | .xor | .or => ⟨.computed, .clear, .clear, .clear⟩

/-- The registers an operation of the accumulator writes: CP leaves A (spec/41_alu8.md R118). -/
def aluRegs : AluOp → List Reg8
  | .cp => []
  | _ => [.a]

/-- The flags column of a CB rotate, shift or swap. -/
def rotEffects : RotOp → FlagEffects
  | .swap => ⟨.computed, .clear, .clear, .clear⟩
  | _ => ⟨.computed, .clear, .clear, .computed⟩

/-- The rows that change what no column speaks of (the interrupt state, the halt, F[3:0]) or that may raise. -/
def isSystemRow : Instr → Bool
  | .pop_af | .halt | .di | .ei | .reti | .stop _ | .unsupported_d3 | .unsupported_db | .unsupported_dd |
    .unsupported_e3 | .unsupported_e4 | .unsupported_eb | .unsupported_ec | .unsupported_ed | .unsupported_f4 |
    .unsupported_fc | .unsupported_fd => true
  | _ => false

/-- What the tables say of a row. -/
structure Columns where
  flags : FlagEffects := keepFlags
  regs : List Reg8 := []
  stored : List Word := []
  sp : Bool := false
  pc : Bool := false
  system : Bool := false

/-- The columns of the row `i`, in a state whose pc is past it. -/
def columns (i : Instr) (s : State) : Columns where
  flags := flagsColumn (selectedRow i)
  regs := regsWritten (selectedRow i)
  stored := storedAddrs (selectedRow i) s
  sp := writesSp i
  pc := writesPc i
  system := isSystemRow i

/-- The body of the row `i` from `s`, with the columns that go with it. -/
inductive RowBody (i : Instr) (s : State) : Result → Prop where
  | nop (h : columns i s = {}) : RowBody i s (.next s)
  | ld8 (d : Target8) (v : Byte) (h : columns i s = { regs := targetRegs d, stored := targetStores s d }) :
      RowBody i s (Machine.ld8 d v s)
  | ld16 (p : Pair) (v : Word) (h : columns i s = { regs := pairRegs p, sp := pairIsSp p }) :
      RowBody i s (Machine.ld16 p v s)
  | store8 (a : Word) (v : Byte) (h : columns i s = { stored := [a] }) : RowBody i s (Machine.store8 a v s)
  | store16 (a v : Word) (h : columns i s = { stored := [a, a + 1] }) : RowBody i s (Machine.store16 a v s)
  | storeStep (w : Word) (h : columns i s = { regs := [.h, .l], stored := [s.hl] }) :
      RowBody i s (Machine.storeStep w s)
  | loadStep (w : Word) (h : columns i s = { regs := [.a, .h, .l] }) : RowBody i s (Machine.loadStep w s)
  | aluA (op : AluOp) (v : Byte) (h : columns i s = { flags := aluFlags op, regs := aluRegs op }) :
      RowBody i s (Machine.aluA op v s)
  | inc8 (d : Target8) (h : columns i s =
        { flags := ⟨.computed, .clear, .computed, .keep⟩, regs := targetRegs d, stored := targetStores s d }) :
      RowBody i s (Machine.inc8 d s)
  | dec8 (d : Target8) (h : columns i s =
        { flags := ⟨.computed, .force, .computed, .keep⟩, regs := targetRegs d, stored := targetStores s d }) :
      RowBody i s (Machine.dec8 d s)
  | decimalAdjust (h : columns i s = { flags := ⟨.computed, .keep, .clear, .computed⟩, regs := [.a] }) :
      RowBody i s (Machine.decimalAdjust s)
  | complementA (h : columns i s = { flags := ⟨.keep, .force, .force, .keep⟩, regs := [.a] }) :
      RowBody i s (Machine.complementA s)
  | setCarry (h : columns i s = { flags := ⟨.keep, .clear, .clear, .force⟩ }) : RowBody i s (Machine.writeCarry true s)
  | toggleCarry (h : columns i s = { flags := ⟨.keep, .clear, .clear, .computed⟩ }) :
      RowBody i s (Machine.writeCarry (!s.flagC) s)
  | addHl (v : Word) (h : columns i s = { flags := ⟨.keep, .clear, .computed, .computed⟩, regs := [.h, .l] }) :
      RowBody i s (Machine.addHl v s)
  | addSpTo (p : Pair) (e : Byte) (h : columns i s =
        { flags := ⟨.clear, .clear, .computed, .computed⟩, regs := pairRegs p, sp := pairIsSp p }) :
      RowBody i s (Machine.addSpTo p e s)
  | rotA (op : RotOp) (h : columns i s = { flags := ⟨.clear, .clear, .clear, .computed⟩, regs := [.a] }) :
      RowBody i s (Machine.rotA op s)
  | rot (op : RotOp) (d : Target8) (h : columns i s =
        { flags := rotEffects op, regs := targetRegs d, stored := targetStores s d }) : RowBody i s (Machine.rot op d s)
  | testBit (b : Nat) (d : Target8) (h : columns i s = { flags := ⟨.computed, .clear, .force, .keep⟩ }) :
      RowBody i s (Machine.testBit b d s)
  | resetBit (b : Nat) (d : Target8) (h : columns i s = { regs := targetRegs d, stored := targetStores s d }) :
      RowBody i s (Machine.resetBit b d s)
  | setBit (b : Nat) (d : Target8) (h : columns i s = { regs := targetRegs d, stored := targetStores s d }) :
      RowBody i s (Machine.setBit b d s)
  | jump (a : Word) (h : columns i s = { pc := true }) : RowBody i s (Machine.jump a s)
  | jumpIf (taken : Bool) (a : Word) (h : columns i s = { pc := true }) : RowBody i s (Machine.jumpIf taken a s)
  | call (a : Word) (h : columns i s = { stored := [s.sp - 1, s.sp - 2], sp := true, pc := true }) :
      RowBody i s (Machine.call a s)
  | callIf (taken : Bool) (a : Word) (h : columns i s =
        { stored := if taken then [s.sp - 1, s.sp - 2] else [], sp := true, pc := true }) :
      RowBody i s (Machine.callIf taken a s)
  | ret (h : columns i s = { sp := true, pc := true }) : RowBody i s (Machine.ret s)
  | retIf (taken : Bool) (h : columns i s = { sp := true, pc := true }) : RowBody i s (Machine.retIf taken s)
  | push (q : StackPair) (h : columns i s = { stored := [s.sp - 1, s.sp - 2], sp := true }) :
      RowBody i s (Machine.push q s)
  | pop (q : StackPair) (hq : q ≠ .af) (h : columns i s = { regs := stackPairRegs q, sp := true }) :
      RowBody i s (Machine.pop q s)
  | popAf (h : i = .pop_af) : RowBody i s (Machine.pop .af s)
  | halt (h : i = .halt) : RowBody i s (haltBody s)
  | di (h : i = .di) : RowBody i s (.next { s with ime := false, imeScheduled := false })
  | ei (h : i = .ei) : RowBody i s (.next { s with imeScheduled := true })
  | reti (h : i = .reti) : RowBody i s (.next s.returnFromInterrupt)
  | stop {n8 : Byte} (h : i = .stop n8) : RowBody i s (.fault (.unimplemented 0x10))
  | unsupported {op : Byte} (h : (op, i) ∈ unsupportedRows) : RowBody i s (.fault (.unsupported op))

/-- The prefix row's body is of the kind that the top two bits of its byte say (spec/30_encoding.md R53). -/
theorem cbBody_rowBody (la : Byte) (s : State) : RowBody (.prefix_cb la) s (cbBody la s) := by
  obtain ⟨n, hn, rfl⟩ : ∃ n < 256, la = BitVec.ofNat 8 n := ⟨la.toNat, la.isLt, by simp⟩
  obtain h | h | h | h : n < 64 ∨ (64 ≤ n ∧ n < 128) ∨ (128 ≤ n ∧ n < 192) ∨ 192 ≤ n := by omega
  · interval_cases n <;> exact .rot _ _ rfl
  · obtain ⟨hlow, hhigh⟩ := h
    interval_cases n <;> exact .testBit _ _ rfl
  · obtain ⟨hlow, hhigh⟩ := h
    interval_cases n <;> exact .resetBit _ _ rfl
  · interval_cases n <;> exact .setBit _ _ rfl

/-- Every instruction's body goes with the columns of its row. -/
theorem exec_rowBody (s : State) : ∀ i : Instr, RowBody i s (exec i s)
  | .nop => .nop rfl
  | .ld_b_n8 _ | .ld_c_n8 _ | .ld_d_n8 _ | .ld_e_n8 _ | .ld_h_n8 _ | .ld_l_n8 _ | .ld_mhl_n8 _ | .ld_a_n8 _ |
    .ldh_a_ma8 _ | .ld_a_ma16 _ | .ld_a_mbc | .ld_a_mde | .ld_b_b | .ld_b_c | .ld_b_d | .ld_b_e | .ld_b_h | .ld_b_l |
    .ld_b_mhl | .ld_b_a | .ld_c_b | .ld_c_c | .ld_c_d | .ld_c_e | .ld_c_h | .ld_c_l | .ld_c_mhl | .ld_c_a | .ld_d_b |
    .ld_d_c | .ld_d_d | .ld_d_e | .ld_d_h | .ld_d_l | .ld_d_mhl | .ld_d_a | .ld_e_b | .ld_e_c | .ld_e_d | .ld_e_e |
    .ld_e_h | .ld_e_l | .ld_e_mhl | .ld_e_a | .ld_h_b | .ld_h_c | .ld_h_d | .ld_h_e | .ld_h_h | .ld_h_l | .ld_h_mhl |
    .ld_h_a | .ld_l_b | .ld_l_c | .ld_l_d | .ld_l_e | .ld_l_h | .ld_l_l | .ld_l_mhl | .ld_l_a | .ld_mhl_b |
    .ld_mhl_c | .ld_mhl_d | .ld_mhl_e | .ld_mhl_h | .ld_mhl_l | .ld_mhl_a | .ld_a_b | .ld_a_c | .ld_a_d | .ld_a_e |
    .ld_a_h | .ld_a_l | .ld_a_mhl | .ld_a_a | .ld_a_mc => .ld8 _ _ rfl
  | .ld_bc_n16 _ | .ld_de_n16 _ | .ld_hl_n16 _ | .ld_sp_n16 _ | .inc_bc | .dec_bc | .inc_de | .dec_de | .inc_hl |
    .dec_hl | .inc_sp | .dec_sp | .ld_sp_hl => .ld16 _ _ rfl
  | .ldh_ma8_a _ | .ld_ma16_a _ | .ld_mbc_a | .ld_mde_a | .ld_mc_a => .store8 _ _ rfl
  | .ld_ma16_sp _ => .store16 _ _ rfl
  | .ld_mhli_a | .ld_mhld_a => .storeStep _ rfl
  | .ld_a_mhli | .ld_a_mhld => .loadStep _ rfl
  | .add_a_n8 _ | .adc_a_n8 _ | .sub_n8 _ | .sbc_a_n8 _ | .and_n8 _ | .xor_n8 _ | .or_n8 _ | .cp_n8 _ | .add_a_b |
    .add_a_c | .add_a_d | .add_a_e | .add_a_h | .add_a_l | .add_a_mhl | .add_a_a | .adc_a_b | .adc_a_c | .adc_a_d |
    .adc_a_e | .adc_a_h | .adc_a_l | .adc_a_mhl | .adc_a_a | .sub_b | .sub_c | .sub_d | .sub_e | .sub_h | .sub_l |
    .sub_mhl | .sub_a | .sbc_a_b | .sbc_a_c | .sbc_a_d | .sbc_a_e | .sbc_a_h | .sbc_a_l | .sbc_a_mhl | .sbc_a_a |
    .and_b | .and_c | .and_d | .and_e | .and_h | .and_l | .and_mhl | .and_a | .xor_b | .xor_c | .xor_d | .xor_e |
    .xor_h | .xor_l | .xor_mhl | .xor_a | .or_b | .or_c | .or_d | .or_e | .or_h | .or_l | .or_mhl | .or_a | .cp_b |
    .cp_c | .cp_d | .cp_e | .cp_h | .cp_l | .cp_mhl | .cp_a => .aluA _ _ rfl
  | .inc_b | .inc_c | .inc_d | .inc_e | .inc_h | .inc_l | .inc_mhl | .inc_a => .inc8 _ rfl
  | .dec_b | .dec_c | .dec_d | .dec_e | .dec_h | .dec_l | .dec_mhl | .dec_a => .dec8 _ rfl
  | .daa => .decimalAdjust rfl
  | .cpl => .complementA rfl
  | .scf => .setCarry rfl
  | .ccf => .toggleCarry rfl
  | .add_hl_bc | .add_hl_de | .add_hl_hl | .add_hl_sp => .addHl _ rfl
  | .add_sp_e8 _ | .ld_hl_sp_e8 _ => .addSpTo _ _ rfl
  | .rlca | .rrca | .rla | .rra => .rotA _ rfl
  | .rlc_b | .rlc_c | .rlc_d | .rlc_e | .rlc_h | .rlc_l | .rlc_mhl | .rlc_a | .rrc_b | .rrc_c | .rrc_d | .rrc_e |
    .rrc_h | .rrc_l | .rrc_mhl | .rrc_a | .rl_b | .rl_c | .rl_d | .rl_e | .rl_h | .rl_l | .rl_mhl | .rl_a | .rr_b |
    .rr_c | .rr_d | .rr_e | .rr_h | .rr_l | .rr_mhl | .rr_a | .sla_b | .sla_c | .sla_d | .sla_e | .sla_h | .sla_l |
    .sla_mhl | .sla_a | .sra_b | .sra_c | .sra_d | .sra_e | .sra_h | .sra_l | .sra_mhl | .sra_a | .swap_b | .swap_c |
    .swap_d | .swap_e | .swap_h | .swap_l | .swap_mhl | .swap_a | .srl_b | .srl_c | .srl_d | .srl_e | .srl_h |
    .srl_l | .srl_mhl | .srl_a => .rot _ _ rfl
  | .bit_0_b | .bit_0_c | .bit_0_d | .bit_0_e | .bit_0_h | .bit_0_l | .bit_0_mhl | .bit_0_a | .bit_1_b | .bit_1_c |
    .bit_1_d | .bit_1_e | .bit_1_h | .bit_1_l | .bit_1_mhl | .bit_1_a | .bit_2_b | .bit_2_c | .bit_2_d | .bit_2_e |
    .bit_2_h | .bit_2_l | .bit_2_mhl | .bit_2_a | .bit_3_b | .bit_3_c | .bit_3_d | .bit_3_e | .bit_3_h | .bit_3_l |
    .bit_3_mhl | .bit_3_a | .bit_4_b | .bit_4_c | .bit_4_d | .bit_4_e | .bit_4_h | .bit_4_l | .bit_4_mhl | .bit_4_a |
    .bit_5_b | .bit_5_c | .bit_5_d | .bit_5_e | .bit_5_h | .bit_5_l | .bit_5_mhl | .bit_5_a | .bit_6_b | .bit_6_c |
    .bit_6_d | .bit_6_e | .bit_6_h | .bit_6_l | .bit_6_mhl | .bit_6_a | .bit_7_b | .bit_7_c | .bit_7_d | .bit_7_e |
    .bit_7_h | .bit_7_l | .bit_7_mhl | .bit_7_a => .testBit _ _ rfl
  | .res_0_b | .res_0_c | .res_0_d | .res_0_e | .res_0_h | .res_0_l | .res_0_mhl | .res_0_a | .res_1_b | .res_1_c |
    .res_1_d | .res_1_e | .res_1_h | .res_1_l | .res_1_mhl | .res_1_a | .res_2_b | .res_2_c | .res_2_d | .res_2_e |
    .res_2_h | .res_2_l | .res_2_mhl | .res_2_a | .res_3_b | .res_3_c | .res_3_d | .res_3_e | .res_3_h | .res_3_l |
    .res_3_mhl | .res_3_a | .res_4_b | .res_4_c | .res_4_d | .res_4_e | .res_4_h | .res_4_l | .res_4_mhl | .res_4_a |
    .res_5_b | .res_5_c | .res_5_d | .res_5_e | .res_5_h | .res_5_l | .res_5_mhl | .res_5_a | .res_6_b | .res_6_c |
    .res_6_d | .res_6_e | .res_6_h | .res_6_l | .res_6_mhl | .res_6_a | .res_7_b | .res_7_c | .res_7_d | .res_7_e |
    .res_7_h | .res_7_l | .res_7_mhl | .res_7_a => .resetBit _ _ rfl
  | .set_0_b | .set_0_c | .set_0_d | .set_0_e | .set_0_h | .set_0_l | .set_0_mhl | .set_0_a | .set_1_b | .set_1_c |
    .set_1_d | .set_1_e | .set_1_h | .set_1_l | .set_1_mhl | .set_1_a | .set_2_b | .set_2_c | .set_2_d | .set_2_e |
    .set_2_h | .set_2_l | .set_2_mhl | .set_2_a | .set_3_b | .set_3_c | .set_3_d | .set_3_e | .set_3_h | .set_3_l |
    .set_3_mhl | .set_3_a | .set_4_b | .set_4_c | .set_4_d | .set_4_e | .set_4_h | .set_4_l | .set_4_mhl | .set_4_a |
    .set_5_b | .set_5_c | .set_5_d | .set_5_e | .set_5_h | .set_5_l | .set_5_mhl | .set_5_a | .set_6_b | .set_6_c |
    .set_6_d | .set_6_e | .set_6_h | .set_6_l | .set_6_mhl | .set_6_a | .set_7_b | .set_7_c | .set_7_d | .set_7_e |
    .set_7_h | .set_7_l | .set_7_mhl | .set_7_a => .setBit _ _ rfl
  | .jr_e8 _ | .jp_a16 _ | .jp_hl => .jump _ rfl
  | .jr_nz_e8 _ | .jr_z_e8 _ | .jr_nc_e8 _ | .jr_c_e8 _ | .jp_nz_a16 _ | .jp_z_a16 _ | .jp_nc_a16 _ |
    .jp_c_a16 _ => .jumpIf _ _ rfl
  | .call_a16 _ | .rst_0x00 | .rst_0x08 | .rst_0x10 | .rst_0x18 | .rst_0x20 | .rst_0x28 | .rst_0x30 |
    .rst_0x38 => .call _ rfl
  | .call_nz_a16 _ | .call_z_a16 _ | .call_nc_a16 _ | .call_c_a16 _ => .callIf _ _ rfl
  | .ret => .ret rfl
  | .ret_nz | .ret_z | .ret_nc | .ret_c => .retIf _ rfl
  | .push_bc | .push_de | .push_hl | .push_af => .push _ rfl
  | .pop_bc | .pop_de | .pop_hl => .pop _ (by decide) rfl
  | .pop_af => .popAf rfl
  | .halt => .halt rfl
  | .di => .di rfl
  | .ei => .ei rfl
  | .reti => .reti rfl
  | .stop _ => .stop rfl
  | .unsupported_d3 | .unsupported_db | .unsupported_dd | .unsupported_e3 | .unsupported_e4 | .unsupported_eb |
    .unsupported_ec | .unsupported_ed | .unsupported_f4 | .unsupported_fc |
    .unsupported_fd => .unsupported (by decide)
  | .prefix_cb la => cbBody_rowBody la s

end Sys2Proof.Machine
end

section
/-! What a completed body does to F, by the flags column of its row, and O57 (spec/10_state.md R34). -/

namespace Sys2Proof.Machine

/-- Each of the four flags goes from `old` to `new` as its entry says. -/
def FlagEffects.Allows (e : FlagEffects) (old new : Flags) : Prop :=
  e.z.Allows old.z new.z ∧ e.n.Allows old.n new.n ∧ e.h.Allows old.h new.h ∧ e.c.Allows old.c new.c

/-- The flags go as the row's column says, and F[3:0] is left, but cleared by POP AF. -/
def FlagsFollowRow (i : Instr) (s t : State) : Prop :=
  (flagsColumn (selectedRow i)).Allows s.flags t.flags ∧
    t.regs.f &&& 0x0F = if i = .pop_af then 0 else s.regs.f &&& 0x0F

theorem ne_of_isSystemRow {i j : Instr} (hi : isSystemRow i = false) (hj : isSystemRow j = true) : i ≠ j := by
  rintro rfl
  exact Bool.false_ne_true (hi.symm.trans hj)

/-- The flags are those of F alone. -/
theorem State.flags_congr {s t : State} (h : t.regs.f = s.regs.f) : t.flags = s.flags := by
  simp only [State.flags, State.flagZ, State.flagN, State.flagH, State.flagC, h]

/-- A row that keeps F follows a column of `keep`s. -/
theorem FlagsFollowRow.of_f_eq {i : Instr} {s t : State} {c : Columns} (hc : columns i s = c) (hflags : c.flags = keepFlags)
    (hsystem : c.system = false) (hf : t.regs.f = s.regs.f) : FlagsFollowRow i s t := by
  subst hc
  have hcolumn : flagsColumn (selectedRow i) = keepFlags := hflags
  refine ⟨?_, ?_⟩
  · rw [hcolumn, State.flags_congr hf]
    exact ⟨rfl, rfl, rfl, rfl⟩
  · rw [hf, if_neg (ne_of_isSystemRow hsystem rfl)]

/-- A row that ends in a flag setter follows its column when the flags set do. -/
theorem FlagsFollowRow.of_setFlags {i : Instr} {s u : State} {fl : Flags} {c : Columns} (hc : columns i s = c)
    (hflags : c.flags.Allows s.flags fl) (hsystem : c.system = false) (hf : u.regs.f = s.regs.f) :
    FlagsFollowRow i s (u.setFlags fl) := by
  subst hc
  refine ⟨?_, ?_⟩
  · rw [State.flags_setFlags]
    exact hflags
  · rw [State.setFlags_low, hf, if_neg (ne_of_isSystemRow hsystem rfl)]

theorem aluFlags_allows (mode : AdcSbcMode) (op : AluOp) (a v : Byte) (c : Bool) (old : Flags) :
    (aluFlags op).Allows old (aluResult mode op a v c).2 := by
  cases op <;> cases mode <;> exact ⟨trivial, rfl, by trivial, by trivial⟩

theorem rotEffects_allows (op : RotOp) (v r : Byte) (cin : Bool) (old : Flags) :
    (rotEffects op).Allows old (rotFlags r (rotResult op v cin).2) := by
  cases op <;> exact ⟨trivial, rfl, rfl, by trivial⟩

/-- DAA keeps N and clears H in both of its cases (spec/41_alu8.md R125). -/
theorem daaFlags_allows (a : Byte) (old : Flags) :
    FlagEffects.Allows ⟨.computed, .keep, .clear, .computed⟩ old (daaResult a old).2 := by
  unfold daaResult
  split <;> exact ⟨trivial, rfl, rfl, trivial⟩

/-- A POP of another pair than AF leaves F. -/
theorem State.setStackPair_regs_f (s : State) {q : StackPair} (hq : q ≠ .af) (v : Word) :
    (s.setStackPair q v).regs.f = s.regs.f := by
  cases q
  case af => exact absurd rfl hq
  all_goals rfl

/-- POP AF clears F[3:0] (spec/10_state.md R16). -/
theorem State.setAf_low (s : State) (v : Word) : (s.setAf v).regs.f &&& 0x0F = 0 := by
  rw [State.setAf_regs_f, BitVec.and_assoc]
  exact BitVec.and_zero

/-- What a completed body does to F. -/
theorem RowBody.flags {i : Instr} {s t : State} {r : Result} (h : RowBody i s r) (ht : r = .next t) : FlagsFollowRow i s t := by
  cases h with
  | nop h => cases ht; exact .of_f_eq h rfl rfl rfl
  | ld8 d v h => obtain rfl := ld8_next.1 ht; exact .of_f_eq h rfl rfl (by simp)
  | ld16 p v h => obtain rfl := ld16_next.1 ht; exact .of_f_eq h rfl rfl (by simp)
  | store8 a v h => obtain rfl := store8_next.1 ht; exact .of_f_eq h rfl rfl (by simp)
  | store16 a v h => obtain rfl := store16_next.1 ht; exact .of_f_eq h rfl rfl (by simp [State.memWrite16])
  | storeStep w h => obtain rfl := storeStep_next.1 ht; exact .of_f_eq h rfl rfl (by simp)
  | loadStep w h => obtain rfl := loadStep_next.1 ht; exact .of_f_eq h rfl rfl rfl
  | aluA op v h => obtain rfl := aluA_next.1 ht; exact .of_setFlags h (aluFlags_allows ..) rfl rfl
  | inc8 d h => obtain rfl := inc8_next.1 ht; exact .of_setFlags h ⟨trivial, rfl, trivial, rfl⟩ rfl (by simp)
  | dec8 d h => obtain rfl := dec8_next.1 ht; exact .of_setFlags h ⟨trivial, rfl, trivial, rfl⟩ rfl (by simp)
  | decimalAdjust h => obtain rfl := decimalAdjust_next.1 ht; exact .of_setFlags h (daaFlags_allows ..) rfl rfl
  | complementA h => obtain rfl := complementA_next.1 ht; exact .of_setFlags h ⟨rfl, rfl, rfl, rfl⟩ rfl rfl
  | setCarry h => obtain rfl := writeCarry_next.1 ht; exact .of_setFlags h ⟨rfl, rfl, rfl, rfl⟩ rfl rfl
  | toggleCarry h => obtain rfl := writeCarry_next.1 ht; exact .of_setFlags h ⟨rfl, rfl, rfl, trivial⟩ rfl rfl
  | addHl v h => obtain rfl := addHl_next.1 ht; exact .of_setFlags h ⟨rfl, rfl, trivial, trivial⟩ rfl rfl
  | addSpTo p e h => obtain rfl := addSpTo_next.1 ht; exact .of_setFlags h ⟨rfl, rfl, trivial, trivial⟩ rfl (by simp)
  | rotA op h => obtain rfl := rotA_next.1 ht; exact .of_setFlags h ⟨rfl, rfl, rfl, trivial⟩ rfl rfl
  | rot op d h => obtain rfl := rot_next.1 ht; exact .of_setFlags h (rotEffects_allows ..) rfl (by simp)
  | testBit b d h => obtain rfl := testBit_next.1 ht; exact .of_setFlags h ⟨trivial, rfl, rfl, rfl⟩ rfl rfl
  | resetBit b d h => obtain rfl := resetBit_next.1 ht; exact .of_f_eq h rfl rfl (by simp)
  | setBit b d h => obtain rfl := setBit_next.1 ht; exact .of_f_eq h rfl rfl (by simp)
  | jump a h => obtain rfl := jump_next.1 ht; exact .of_f_eq h rfl rfl rfl
  | jumpIf taken a h => obtain rfl := jumpIf_next.1 ht; exact .of_f_eq h rfl rfl (by cases taken <;> rfl)
  | call a h => obtain rfl := call_next.1 ht; exact .of_f_eq h rfl rfl (by simp)
  | callIf taken a h => obtain rfl := callIf_next.1 ht; exact .of_f_eq h rfl rfl (by cases taken <;> simp)
  | ret h => obtain rfl := ret_next.1 ht; exact .of_f_eq h rfl rfl rfl
  | retIf taken h => obtain rfl := retIf_next.1 ht; exact .of_f_eq h rfl rfl (by cases taken <;> rfl)
  | push q h => obtain rfl := push_next.1 ht; exact .of_f_eq h rfl rfl (by simp)
  | pop q hq h => obtain rfl := pop_next.1 ht; exact .of_f_eq h rfl rfl (State.setStackPair_regs_f _ hq _)
  | popAf h =>
    obtain rfl := pop_next.1 ht
    subst h
    exact ⟨⟨trivial, trivial, trivial, trivial⟩, State.setAf_low _ _⟩
  | halt h =>
    obtain ⟨-, rfl⟩ := haltBody_next.1 ht
    subst h
    exact ⟨⟨rfl, rfl, rfl, rfl⟩, rfl⟩
  | di h => cases ht; subst h; exact ⟨⟨rfl, rfl, rfl, rfl⟩, rfl⟩
  | ei h => cases ht; subst h; exact ⟨⟨rfl, rfl, rfl, rfl⟩, rfl⟩
  | reti h => cases ht; subst h; exact ⟨⟨rfl, rfl, rfl, rfl⟩, rfl⟩
  | stop h => cases ht
  | unsupported h => cases ht

/-- What a completed instruction does to F. -/
theorem exec_flags {i : Instr} {s t : State} (h : exec i s = .next t) : FlagsFollowRow i s t := (exec_rowBody s i).flags h

/-- Settles O57: every row's body follows its column. -/
theorem flagEffectsOfEveryInstruction : Obligations.FlagEffectsOfEveryInstruction := by
  intro i s t ht
  obtain ⟨⟨hz, hn, hh, hc⟩, hlow⟩ := exec_flags ht
  exact ⟨hz, hn, hh, hc, hlow⟩

end Sys2Proof.Machine
end

section
/-! What a completed body does to the single registers, SP, pc, the interrupt state and the halt, by the columns of its row,
and O58 (spec/10_state.md R20-R23, R33). -/

namespace Sys2Proof.Machine

/-! ## Reads of a single register after an update -/

theorem State.getReg_congr {s t : State} (h : t.regs = s.regs) (r : Reg8) : t.getReg r = s.getReg r := by
  cases r <;> simp only [State.getReg, h]

@[simp] theorem State.getReg_setFlags (s : State) (fl : Flags) (r : Reg8) : (s.setFlags fl).getReg r = s.getReg r := by
  cases r <;> rfl

@[simp] theorem State.getReg_memWrite (s : State) (a : Word) (v : Byte) (r : Reg8) :
    (s.memWrite a v).getReg r = s.getReg r := State.getReg_congr (s.memWrite_regs a v) r

@[simp] theorem State.getReg_push16 (s : State) (v : Word) (r : Reg8) : (s.push16 v).getReg r = s.getReg r :=
  State.getReg_congr (s.push16_regs v) r

theorem State.getReg_setA (s : State) (v : Byte) {r : Reg8} (hr : r ∉ [Reg8.a]) : (s.setA v).getReg r = s.getReg r := by
  cases r
  case a => simp at hr
  all_goals rfl

theorem State.getReg_writeTarget (s : State) (d : Target8) (v : Byte) {r : Reg8} (hr : r ∉ targetRegs d) :
    (s.writeTarget d v).getReg r = s.getReg r := by
  cases d with
  | reg q => exact (s.getReg_setReg q r v).trans (if_neg (List.mem_singleton.not.1 hr))
  | mhl => exact s.getReg_memWrite s.hl v r

/-- A write to two registers leaves the others. -/
theorem State.getReg_setReg_setReg (s : State) {q₁ q₂ r : Reg8} (v w : Byte) (hr : r ∉ [q₁, q₂]) :
    ((s.setReg q₁ v).setReg q₂ w).getReg r = s.getReg r := by
  simp only [List.mem_cons, List.not_mem_nil, or_false, not_or] at hr
  rw [State.getReg_setReg, if_neg hr.2, State.getReg_setReg, if_neg hr.1]

theorem State.getReg_setPair (s : State) (p : Pair) (v : Word) {r : Reg8} (hr : r ∉ pairRegs p) :
    (s.setPair p v).getReg r = s.getReg r := by
  cases p with
  | bc => exact s.getReg_setReg_setReg (q₁ := .b) (q₂ := .c) v.hi v.lo hr
  | de => exact s.getReg_setReg_setReg (q₁ := .d) (q₂ := .e) v.hi v.lo hr
  | hl => exact s.getReg_setReg_setReg (q₁ := .h) (q₂ := .l) v.hi v.lo hr
  | sp => exact State.getReg_congr rfl r

/-- AF's low byte is F, which is no single register. -/
theorem State.getReg_setAf (s : State) (v : Word) (r : Reg8) : (s.setAf v).getReg r = (s.setA v.hi).getReg r := by
  cases r <;> rfl

theorem State.getReg_setStackPair (s : State) (q : StackPair) (v : Word) {r : Reg8} (hr : r ∉ stackPairRegs q) :
    (s.setStackPair q v).getReg r = s.getReg r := by
  cases q with
  | bc => exact s.getReg_setPair .bc v hr
  | de => exact s.getReg_setPair .de v hr
  | hl => exact s.getReg_setPair .hl v hr
  | af => exact (s.getReg_setAf v r).trans (s.getReg_setA v.hi hr)

/-- CP puts back the accumulator it read; every other operation writes A alone. -/
theorem State.getReg_setA_aluResult (s : State) (op : AluOp) (v : Byte) {r : Reg8} (hr : r ∉ aluRegs op) :
    (s.setA (aluResult s.params.adcSbcMode op s.regs.a v s.flagC).1).getReg r = s.getReg r := by
  cases op
  case cp => rfl
  all_goals exact s.getReg_setA _ hr

theorem State.setPair_sp_of_not {p : Pair} (s : State) (v : Word) (hp : pairIsSp p = false) : (s.setPair p v).sp = s.sp := by
  cases p
  case sp => cases hp
  all_goals rfl

/-! ## The frame -/

/-- Everything a row's columns do not name is as before: what the statement asks of a completed body. -/
structure RegistersFollowRow (i : Instr) (s t : State) : Prop where
  regs : ∀ r : Reg8, r ∉ regsWritten (selectedRow i) → t.getReg r = s.getReg r
  sp : writesSp i = false → t.sp = s.sp
  pc : writesPc i = false → t.pc = s.pc
  ime : i ≠ .di → t.ime = s.ime
  imeScheduled : i ≠ .di → i ≠ .ei → i ≠ .reti → t.imeScheduled = s.imeScheduled
  halted : i ≠ .halt → t.halted = s.halted
  params : t.params = s.params

/-- A row that is no system row changes at most its registers, SP and pc. -/
theorem RegistersFollowRow.of_columns {i : Instr} {s t : State} {c : Columns} (hc : columns i s = c)
    (hregs : ∀ r : Reg8, r ∉ c.regs → t.getReg r = s.getReg r)
    (hsp : c.sp = false → t.sp = s.sp := by simp) (hpc : c.pc = false → t.pc = s.pc := by simp)
    (hime : t.ime = s.ime := by simp) (hsched : t.imeScheduled = s.imeScheduled := by simp)
    (hhalted : t.halted = s.halted := by simp) (hparams : t.params = s.params := by simp) : RegistersFollowRow i s t := by
  subst hc
  exact ⟨hregs, hsp, hpc, fun _ => hime, fun _ _ _ => hsched, fun _ => hhalted, hparams⟩

theorem RowBody.registers {i : Instr} {s t : State} {r : Result} (h : RowBody i s r) (ht : r = .next t) :
    RegistersFollowRow i s t := by
  cases h with
  | nop h => cases ht; exact .of_columns h fun _ _ => rfl
  | ld8 d v h => obtain rfl := ld8_next.1 ht; exact .of_columns h fun _ hr => State.getReg_writeTarget _ _ _ hr
  | ld16 p v h =>
    obtain rfl := ld16_next.1 ht
    exact .of_columns h (fun _ hr => State.getReg_setPair _ _ _ hr) (hsp := State.setPair_sp_of_not _ _)
  | store8 a v h => obtain rfl := store8_next.1 ht; exact .of_columns h fun _ _ => by simp
  | store16 a v h =>
    obtain rfl := store16_next.1 ht
    rw [State.memWrite16]
    exact .of_columns h fun _ _ => by simp
  | storeStep w h =>
    obtain rfl := storeStep_next.1 ht
    exact .of_columns h fun _ hr => (State.getReg_setPair _ .hl _ hr).trans (State.getReg_memWrite ..)
  | loadStep w h =>
    obtain rfl := loadStep_next.1 ht
    refine .of_columns h fun r hr => ?_
    obtain ⟨ha, hhl⟩ : r ∉ [Reg8.a] ∧ r ∉ [Reg8.h, Reg8.l] := by simpa using hr
    exact (State.getReg_setPair _ .hl _ hhl).trans (State.getReg_setA _ _ ha)
  | aluA op v h =>
    obtain rfl := aluA_next.1 ht
    exact .of_columns h fun _ hr => (State.getReg_setFlags ..).trans (State.getReg_setA_aluResult _ _ _ hr)
  | inc8 d h =>
    obtain rfl := inc8_next.1 ht
    exact .of_columns h fun _ hr => (State.getReg_setFlags ..).trans (State.getReg_writeTarget _ _ _ hr)
  | dec8 d h =>
    obtain rfl := dec8_next.1 ht
    exact .of_columns h fun _ hr => (State.getReg_setFlags ..).trans (State.getReg_writeTarget _ _ _ hr)
  | decimalAdjust h =>
    obtain rfl := decimalAdjust_next.1 ht
    exact .of_columns h fun _ hr => (State.getReg_setFlags ..).trans (State.getReg_setA _ _ hr)
  | complementA h =>
    obtain rfl := complementA_next.1 ht
    exact .of_columns h fun _ hr => (State.getReg_setFlags ..).trans (State.getReg_setA _ _ hr)
  | setCarry h => obtain rfl := writeCarry_next.1 ht; exact .of_columns h fun _ _ => by simp
  | toggleCarry h => obtain rfl := writeCarry_next.1 ht; exact .of_columns h fun _ _ => by simp
  | addHl v h =>
    obtain rfl := addHl_next.1 ht
    exact .of_columns h fun _ hr => (State.getReg_setFlags ..).trans (State.getReg_setPair _ .hl _ hr)
  | addSpTo p e h =>
    obtain rfl := addSpTo_next.1 ht
    exact .of_columns h (fun _ hr => (State.getReg_setFlags ..).trans (State.getReg_setPair _ _ _ hr))
      (hsp := State.setPair_sp_of_not _ _)
  | rotA op h =>
    obtain rfl := rotA_next.1 ht
    exact .of_columns h fun _ hr => (State.getReg_setFlags ..).trans (State.getReg_setA _ _ hr)
  | rot op d h =>
    obtain rfl := rot_next.1 ht
    exact .of_columns h fun _ hr => (State.getReg_setFlags ..).trans (State.getReg_writeTarget _ _ _ hr)
  | testBit b d h => obtain rfl := testBit_next.1 ht; exact .of_columns h fun _ _ => by simp
  | resetBit b d h => obtain rfl := resetBit_next.1 ht; exact .of_columns h fun _ hr => State.getReg_writeTarget _ _ _ hr
  | setBit b d h => obtain rfl := setBit_next.1 ht; exact .of_columns h fun _ hr => State.getReg_writeTarget _ _ _ hr
  | jump a h => obtain rfl := jump_next.1 ht; exact .of_columns h fun _ _ => State.getReg_congr rfl _
  | jumpIf taken a h =>
    obtain rfl := jumpIf_next.1 ht
    cases taken <;> exact .of_columns h fun _ _ => State.getReg_congr rfl _
  | call a h => obtain rfl := call_next.1 ht; exact .of_columns h fun _ _ => State.getReg_congr (State.push16_regs ..) _
  | callIf taken a h =>
    obtain rfl := callIf_next.1 ht
    cases taken
    · exact .of_columns h fun _ _ => rfl
    · exact .of_columns h fun _ _ => State.getReg_congr (State.push16_regs ..) _
  | ret h => obtain rfl := ret_next.1 ht; exact .of_columns h fun _ _ => State.getReg_congr rfl _
  | retIf taken h =>
    obtain rfl := retIf_next.1 ht
    cases taken <;> exact .of_columns h fun _ _ => State.getReg_congr rfl _
  | push q h => obtain rfl := push_next.1 ht; exact .of_columns h fun _ _ => by simp
  | pop q hq h =>
    obtain rfl := pop_next.1 ht
    exact .of_columns h fun _ hr => (State.getReg_setStackPair _ _ _ hr).trans (State.getReg_congr rfl _)
  | popAf h =>
    obtain rfl := pop_next.1 ht
    subst h
    exact .of_columns rfl (fun _ hr => (State.getReg_setStackPair _ .af _ hr).trans (State.getReg_congr rfl _))
      (hsp := fun hsp => Bool.noConfusion hsp)
  | halt h =>
    obtain ⟨-, rfl⟩ := haltBody_next.1 ht
    subst h
    exact ⟨fun _ _ => State.getReg_congr rfl _, fun _ => rfl, fun _ => rfl, fun _ => rfl, fun _ _ _ => rfl,
      fun hne => absurd rfl hne, rfl⟩
  | di h =>
    cases ht
    subst h
    exact ⟨fun _ _ => State.getReg_congr rfl _, fun _ => rfl, fun _ => rfl, fun hne => absurd rfl hne,
      fun hne => absurd rfl hne, fun _ => rfl, rfl⟩
  | ei h =>
    cases ht
    subst h
    exact ⟨fun _ _ => State.getReg_congr rfl _, fun _ => rfl, fun _ => rfl, fun _ => rfl,
      fun _ hne => absurd rfl hne, fun _ => rfl, rfl⟩
  | reti h =>
    cases ht
    subst h
    exact ⟨fun _ _ => State.getReg_congr rfl _, fun hsp => Bool.noConfusion hsp, fun hpc => Bool.noConfusion hpc,
      fun _ => rfl, fun _ _ hne => absurd rfl hne, fun _ => rfl, rfl⟩
  | stop h => cases ht
  | unsupported h => cases ht

/-- What a completed instruction leaves. -/
theorem exec_registers {i : Instr} {s t : State} (h : exec i s = .next t) : RegistersFollowRow i s t :=
  (exec_rowBody s i).registers h

/-- Settles O58: every row's body leaves what its columns do not name. -/
theorem registersOutsideRowUnchanged : Obligations.RegistersOutsideRowUnchanged := by
  intro i s t ht
  obtain ⟨hregs, hsp, hpc, hime, hsched, hhalted, hparams⟩ := exec_registers ht
  exact ⟨hregs, hsp, hpc, hime, hsched, hhalted, hparams⟩

end Sys2Proof.Machine
end

section
/-! Reads and writes through the routing (spec/20_memory.md R37-R40): what is read after a write, and O5. -/

namespace Sys2Proof.Machine

/-- The addresses routed to the Timer are the four from 0xFF04 to 0xFF07. -/
theorem timerAddress_iff (a : Word) : (0xFF04 ≤ a ∧ a ≤ 0xFF07) ↔ a = 0xFF04 ∨ a = 0xFF05 ∨ a = 0xFF06 ∨ a = 0xFF07 := by
  bv_omega

/-- Outside the Timer's addresses an address is none of the four. -/
theorem ne_timerAddress {a : Word} (h : a < 0xFF04 ∨ 0xFF07 < a) :
    a ≠ addrDiv ∧ a ≠ addrTima ∧ a ≠ addrTma ∧ a ≠ addrTac := by
  unfold addrDiv addrTima addrTma addrTac
  bv_omega

theorem State.memRead_array (s : State) {a : Word} (h : a < 0xFF04 ∨ 0xFF07 < a) : s.memRead a = s.mem.read a.toNat := by
  obtain ⟨hdiv, htima, htma, htac⟩ := ne_timerAddress h
  rw [State.memRead, if_neg hdiv, if_neg htima, if_neg htma, if_neg htac]

theorem State.memWrite_array (s : State) {a : Word} (v : Byte) (h : a < 0xFF04 ∨ 0xFF07 < a) :
    s.memWrite a v = { s with mem := s.mem.write a.toNat v } := by
  obtain ⟨hdiv, htima, htma, htac⟩ := ne_timerAddress h
  rw [State.memWrite, if_neg hdiv, if_neg htima, if_neg htma, if_neg htac]

/-- A write to the Timer leaves the whole array. -/
theorem State.memWrite_timer_mem (s : State) {a : Word} (v : Byte) (h : 0xFF04 ≤ a ∧ a ≤ 0xFF07) :
    (s.memWrite a v).mem = s.mem := by
  rcases (timerAddress_iff a).1 h with rfl | rfl | rfl | rfl <;> rfl

/-- The byte written is read back; 0xFF04 reads zero after any write (R38). -/
theorem State.memRead_memWrite_same {s : State} (hwf : s.mem.wf = true) (a : Word) (v : Byte) :
    (s.memWrite a v).memRead a = if a = 0xFF04 then 0x00 else v := by
  by_cases h : 0xFF04 ≤ a ∧ a ≤ 0xFF07
  · rcases (timerAddress_iff a).1 h with rfl | rfl | rfl | rfl <;> rfl
  · have hout : a < 0xFF04 ∨ 0xFF07 < a := by bv_omega
    have hdiv : a ≠ 0xFF04 := (ne_timerAddress hout).1
    rw [State.memRead_array _ hout, State.memWrite_array _ _ hout, if_neg hdiv]
    exact (Memory.read_write hwf _ _ _).trans (if_pos rfl)

/-- A write leaves every other address, in any list. -/
theorem State.memRead_memWrite_ne (s : State) {a b : Word} (v : Byte) (hb : b ≠ a) :
    (s.memWrite a v).memRead b = s.memRead b := by
  by_cases h : 0xFF04 ≤ a ∧ a ≤ 0xFF07
  · rcases (timerAddress_iff a).1 h with rfl | rfl | rfl | rfl <;>
      simp_all [State.memWrite, State.memRead, addrDiv, addrTima, addrTma, addrTac] <;> rfl
  · have hread : (s.mem.write a.toNat v).read b.toNat = s.mem.read b.toNat :=
      Memory.read_write_ne _ _ fun h => hb (BitVec.eq_of_toNat_eq h)
    rw [State.memWrite_array s v (by bv_omega)]
    simp only [State.memRead, hread]

theorem State.memRead_memWrite {s : State} (hwf : s.mem.wf = true) (a b : Word) (v : Byte) :
    (s.memWrite a v).memRead b = if b = a then (if a = 0xFF04 then 0x00 else v) else s.memRead b := by
  by_cases hb : b = a
  · rw [if_pos hb, hb, State.memRead_memWrite_same hwf]
  · rw [if_neg hb, State.memRead_memWrite_ne _ _ hb]

/-- Settles O5: the four timer addresses by evaluation, all others by the array, and a read after a write. -/
theorem byteAccessRouting : Obligations.ByteAccessRouting :=
  ⟨fun _ => ⟨rfl, rfl, rfl, rfl⟩, fun _ _ => ⟨rfl, rfl, rfl, rfl⟩,
    fun s _ v h => ⟨s.memRead_array h, s.memWrite_array v h⟩,
    fun _ a b v hwf => State.memRead_memWrite hwf a b v⟩

end Sys2Proof.Machine
end

section
/-! The canonical form of memory (log entry 4) stands for the array one to one, and O6. -/

namespace Sys2Proof.Machine

/-- In a canonical list the first cell is at or above the lower bound, below 65,536, and not zero. -/
theorem Memory.wfFrom_cons {low k : Nat} {v : Byte} {m : Memory} (h : Memory.wfFrom low ((k, v) :: m) = true) :
    low ≤ k ∧ k < 65536 ∧ v ≠ Memory.unlisted ∧ Memory.wfFrom (k + 1) m = true := by
  simp only [Memory.wfFrom, Bool.and_eq_true, decide_eq_true_eq] at h
  obtain ⟨⟨⟨hlow, hk⟩, hv⟩, hm⟩ := h
  exact ⟨hlow, hk, hv, hm⟩

@[simp] theorem Memory.read_head (k : Nat) (v : Byte) (m : Memory) : Memory.read ((k, v) :: m) k = v := if_pos rfl

/-- The address of a canonical list's first cell reads nonzero, so a list that reads alike has a cell there or below. -/
theorem Memory.head_le_of_read_eq {low j k : Nat} {v w : Byte} {m n : Memory} (hm : Memory.wfFrom low ((k, v) :: m) = true)
    (hn : Memory.wfFrom low ((j, w) :: n) = true)
    (hread : ∀ a < 65536, Memory.read ((k, v) :: m) a = Memory.read ((j, w) :: n) a) : j ≤ k := by
  obtain ⟨-, hk, hv, -⟩ := Memory.wfFrom_cons hm
  obtain ⟨-, -, -, htail⟩ := Memory.wfFrom_cons hn
  by_contra hlt
  have hzero : Memory.read ((j, w) :: n) k = Memory.unlisted := by
    rw [Memory.read, if_neg (by omega), Memory.read_of_lt htail (by omega)]
  exact hv ((Memory.read_head k v m).symm.trans ((hread k hk).trans hzero))

/-- Canonical lists with the same lower bound that read alike below 65,536 are the same list. -/
theorem Memory.ext_from {low : Nat} {m n : Memory} (hm : Memory.wfFrom low m = true) (hn : Memory.wfFrom low n = true)
    (hread : ∀ a < 65536, m.read a = n.read a) : m = n := by
  induction m generalizing low n with
  | nil =>
    cases n with
    | nil => rfl
    | cons d n =>
      obtain ⟨j, w⟩ := d
      obtain ⟨-, hj, hw, -⟩ := Memory.wfFrom_cons hn
      exact absurd ((Memory.read_head j w n).symm.trans (hread j hj).symm) hw
  | cons c m ih =>
    obtain ⟨k, v⟩ := c
    cases n with
    | nil =>
      obtain ⟨-, hk, hv, -⟩ := Memory.wfFrom_cons hm
      exact absurd ((Memory.read_head k v m).symm.trans (hread k hk)) hv
    | cons d n =>
      obtain ⟨j, w⟩ := d
      obtain ⟨-, hk, -, hm'⟩ := Memory.wfFrom_cons hm
      obtain ⟨-, -, -, hn'⟩ := Memory.wfFrom_cons hn
      obtain rfl : k = j := Nat.le_antisymm (Memory.head_le_of_read_eq hn hm fun a ha => (hread a ha).symm)
        (Memory.head_le_of_read_eq hm hn hread)
      obtain rfl : v = w := by simpa using hread k hk
      rw [ih hm' hn' fun a ha => ?_]
      by_cases hak : a = k
      · rw [hak, Memory.read_of_lt hm' (Nat.lt_succ_self k), Memory.read_of_lt hn' (Nat.lt_succ_self k)]
      · have hat := hread a ha
        rwa [Memory.read, Memory.read, if_neg hak, if_neg hak] at hat

/-- Canonical arrays that read alike at every address are equal. -/
theorem Memory.ext {m n : Memory} (hm : m.wf = true) (hn : n.wf = true)
    (hread : ∀ a : Word, m.read a.toNat = n.read a.toNat) : m = n := by
  refine Memory.ext_from hm hn fun a ha => ?_
  have hat := hread (BitVec.ofNat 16 a)
  rwa [BitVec.toNat_ofNat, Nat.mod_eq_of_lt ha] at hat

/-- Writing a byte of the array twice is writing it once. -/
theorem Memory.write_write {m : Memory} (hwf : m.wf = true) (a : Word) (v : Byte) :
    (m.write a.toNat v).write a.toNat v = m.write a.toNat v := by
  have hwf' := Memory.wf_write hwf a v
  refine Memory.ext (Memory.wf_write hwf' a v) hwf' fun b => ?_
  rw [Memory.read_write hwf', Memory.read_write hwf]
  split <;> rfl

theorem State.memWrite_memWrite {s : State} (hwf : s.mem.wf = true) (a : Word) (v : Byte) :
    (s.memWrite a v).memWrite a v = s.memWrite a v := by
  by_cases h : 0xFF04 ≤ a ∧ a ≤ 0xFF07
  · rcases (timerAddress_iff a).1 h with rfl | rfl | rfl | rfl <;> rfl
  · have hout : a < 0xFF04 ∨ 0xFF07 < a := by bv_omega
    rw [State.memWrite_array s v hout, State.memWrite_array _ v hout]
    exact congrArg (fun m => { s with mem := m }) (Memory.write_write hwf a v)

/-- Settles O6: canonical arrays are determined by what they read, and repeating a write changes no read. -/
theorem canonicalMemoriesAgree : Obligations.CanonicalMemoriesAgree :=
  ⟨fun _ _ hm hn hread => Memory.ext hm hn hread, fun _ a v hwf => State.memWrite_memWrite hwf a v⟩

end Sys2Proof.Machine
end

section
/-! What a completed body does to memory and the Timer, by the stores column of its row, and O59 (spec/20_memory.md R44). -/

namespace Sys2Proof.Machine

/-- From `s` to `t`, memory and the Timer are left but for stores to the addresses `as`; stores keep the canonical form and
raise no cycle counter. -/
structure MemoryFrame (as : List Word) (s t : State) : Prop where
  read : ∀ a : Word, a ∉ as → t.memRead a = s.memRead a
  divCounter : 0xFF04 ∉ as → t.timer.divCounter = s.timer.divCounter
  timaCounter : t.timer.timaCounter = s.timer.timaCounter
  behindTimer : ∀ a : Word, 0xFF04 ≤ a → a ≤ 0xFF07 → t.mem.read a.toNat = s.mem.read a.toNat
  wf : s.mem.wf = true → t.mem.wf = true
  divCounter_le : t.timer.divCounter ≤ s.timer.divCounter

theorem MemoryFrame.of_eq (as : List Word) {s t : State} (htimer : t.timer = s.timer) (hmem : t.mem = s.mem) :
    MemoryFrame as s t :=
  ⟨fun a _ => State.memRead_congr htimer hmem a, fun _ => by rw [htimer], by rw [htimer], fun _ _ _ => by rw [hmem],
    fun hwf => hmem ▸ hwf, by rw [htimer]⟩

theorem MemoryFrame.trans {as bs : List Word} {s t u : State} (hst : MemoryFrame as s t) (htu : MemoryFrame bs t u) :
    MemoryFrame (as ++ bs) s u where
  read a ha := (htu.read a fun h => ha (List.mem_append_right as h)).trans
    (hst.read a fun h => ha (List.mem_append_left bs h))
  divCounter ha := (htu.divCounter fun h => ha (List.mem_append_right as h)).trans
    (hst.divCounter fun h => ha (List.mem_append_left bs h))
  timaCounter := htu.timaCounter.trans hst.timaCounter
  behindTimer a hlow hhigh := (htu.behindTimer a hlow hhigh).trans (hst.behindTimer a hlow hhigh)
  wf hwf := htu.wf (hst.wf hwf)
  divCounter_le := htu.divCounter_le.trans hst.divCounter_le

/-- What changes neither memory nor the Timer keeps the frame. -/
theorem MemoryFrame.congr {as : List Word} {s t u : State} (h : MemoryFrame as s t) (htimer : u.timer = t.timer)
    (hmem : u.mem = t.mem) : MemoryFrame as s u := by
  simpa using h.trans (.of_eq [] htimer hmem)

/-- The array cells behind the Timer are written by no access (spec/20_memory.md R37; log entry 17). -/
theorem State.memWrite_behindTimer (s : State) (a : Word) (v : Byte) {b : Word} (hlow : 0xFF04 ≤ b) (hhigh : b ≤ 0xFF07) :
    (s.memWrite a v).mem.read b.toNat = s.mem.read b.toNat := by
  by_cases h : 0xFF04 ≤ a ∧ a ≤ 0xFF07
  · rw [State.memWrite_timer_mem s v h]
  · rw [State.memWrite_array s v (by bv_omega)]
    exact Memory.read_write_ne _ _ (by bv_omega)

theorem MemoryFrame.memWrite (s : State) (a : Word) (v : Byte) : MemoryFrame [a] s (s.memWrite a v) where
  read _ hb := State.memRead_memWrite_ne s v (List.mem_singleton.not.1 hb)
  divCounter hdiv := (s.memWrite_divCounter a v).trans (if_neg fun h => hdiv (List.mem_singleton.2 h.symm))
  timaCounter := s.memWrite_timaCounter a v
  behindTimer _ hlow hhigh := s.memWrite_behindTimer a v hlow hhigh
  wf hwf := State.memWrite_wf hwf a v
  divCounter_le := by rw [State.memWrite_divCounter]; split <;> omega

theorem MemoryFrame.writeTarget (s : State) (d : Target8) (v : Byte) :
    MemoryFrame (targetStores s d) s (s.writeTarget d v) := by
  cases d with
  | reg r => exact .of_eq _ (s.setReg_timer r v) (s.setReg_mem r v)
  | mhl => exact .memWrite s s.hl v

theorem MemoryFrame.push16 (s : State) (v : Word) : MemoryFrame [s.sp - 1, s.sp - 2] s (s.push16 v) := by
  have hsp : MemoryFrame [] s { s with sp := s.sp - 2 } := .of_eq [] rfl rfl
  rw [State.push16_eq]
  exact hsp.trans ((MemoryFrame.memWrite _ _ _).trans (.memWrite _ _ _))

theorem RowBody.memory {i : Instr} {s t : State} {r : Result} (h : RowBody i s r) (ht : r = .next t) :
    MemoryFrame (columns i s).stored s t := by
  cases h with
  | nop h => cases ht; exact .of_eq _ rfl rfl
  | ld8 d v h => obtain rfl := ld8_next.1 ht; rw [h]; exact .writeTarget ..
  | ld16 p v h => obtain rfl := ld16_next.1 ht; exact .of_eq _ (by simp) (by simp)
  | store8 a v h => obtain rfl := store8_next.1 ht; rw [h]; exact .memWrite ..
  | store16 a v h => obtain rfl := store16_next.1 ht; rw [h]; exact (MemoryFrame.memWrite ..).trans (.memWrite ..)
  | storeStep w h => obtain rfl := storeStep_next.1 ht; rw [h]; exact (MemoryFrame.memWrite ..).congr rfl rfl
  | loadStep w h => obtain rfl := loadStep_next.1 ht; exact .of_eq _ rfl rfl
  | aluA op v h => obtain rfl := aluA_next.1 ht; exact .of_eq _ rfl rfl
  | inc8 d h => obtain rfl := inc8_next.1 ht; rw [h]; exact (MemoryFrame.writeTarget ..).congr rfl rfl
  | dec8 d h => obtain rfl := dec8_next.1 ht; rw [h]; exact (MemoryFrame.writeTarget ..).congr rfl rfl
  | decimalAdjust h => obtain rfl := decimalAdjust_next.1 ht; exact .of_eq _ rfl rfl
  | complementA h => obtain rfl := complementA_next.1 ht; exact .of_eq _ rfl rfl
  | setCarry h => obtain rfl := writeCarry_next.1 ht; exact .of_eq _ rfl rfl
  | toggleCarry h => obtain rfl := writeCarry_next.1 ht; exact .of_eq _ rfl rfl
  | addHl v h => obtain rfl := addHl_next.1 ht; exact .of_eq _ rfl rfl
  | addSpTo p e h => obtain rfl := addSpTo_next.1 ht; exact .of_eq _ (by simp) (by simp)
  | rotA op h => obtain rfl := rotA_next.1 ht; exact .of_eq _ rfl rfl
  | rot op d h => obtain rfl := rot_next.1 ht; rw [h]; exact (MemoryFrame.writeTarget ..).congr rfl rfl
  | testBit b d h => obtain rfl := testBit_next.1 ht; exact .of_eq _ rfl rfl
  | resetBit b d h => obtain rfl := resetBit_next.1 ht; rw [h]; exact .writeTarget ..
  | setBit b d h => obtain rfl := setBit_next.1 ht; rw [h]; exact .writeTarget ..
  | jump a h => obtain rfl := jump_next.1 ht; exact .of_eq _ rfl rfl
  | jumpIf taken a h => obtain rfl := jumpIf_next.1 ht; cases taken <;> exact .of_eq _ rfl rfl
  | call a h => obtain rfl := call_next.1 ht; rw [h]; exact (MemoryFrame.push16 ..).congr rfl rfl
  | callIf taken a h =>
    obtain rfl := callIf_next.1 ht
    rw [h]
    cases taken
    · exact .of_eq _ rfl rfl
    · exact (MemoryFrame.push16 ..).congr rfl rfl
  | ret h => obtain rfl := ret_next.1 ht; exact .of_eq _ rfl rfl
  | retIf taken h => obtain rfl := retIf_next.1 ht; cases taken <;> exact .of_eq _ rfl rfl
  | push q h => obtain rfl := push_next.1 ht; rw [h]; exact .push16 ..
  | pop q hq h => obtain rfl := pop_next.1 ht; exact .of_eq _ (by simp) (by simp)
  | popAf h => obtain rfl := pop_next.1 ht; exact .of_eq _ rfl rfl
  | halt h => obtain ⟨-, rfl⟩ := haltBody_next.1 ht; exact .of_eq _ rfl rfl
  | di h => cases ht; exact .of_eq _ rfl rfl
  | ei h => cases ht; exact .of_eq _ rfl rfl
  | reti h => cases ht; exact .of_eq _ rfl rfl
  | stop h => cases ht
  | unsupported h => cases ht

/-- What a completed instruction does to memory and the Timer. -/
theorem exec_memory {i : Instr} {s t : State} (h : exec i s = .next t) : MemoryFrame (columns i s).stored s t :=
  (exec_rowBody s i).memory h

/-- Settles O59: every row's body stores at the addresses of its column alone. -/
theorem memoryOutsideStoresUnchanged : Obligations.MemoryOutsideStoresUnchanged := by
  intro i s t ht
  obtain ⟨hread, hdiv, htima, hbehind, -, -⟩ := exec_memory ht
  exact ⟨hread, hdiv, htima, hbehind⟩

end Sys2Proof.Machine
end

section
/-! The Timer's two parts case by case (spec/60_exceptions.md R213, R214; 10_state.md R25), and O19. -/

namespace Sys2Proof.Machine

theorem Timer.advanceDiv_of_le {c : Nat} {t : Timer} (h : 255 ≤ t.divCounter + c) :
    t.advanceDiv c = { t with divCounter := 0, div := t.div + 1 } := if_pos h

theorem Timer.advanceDiv_of_lt {c : Nat} {t : Timer} (h : t.divCounter + c < 255) :
    t.advanceDiv c = { t with divCounter := t.divCounter + c } := if_neg (by omega)

theorem Timer.advanceTima_disabled {c : Nat} {t : Timer} (h : t.tac.getLsbD 2 = false) : t.advanceTima c = (t, false) :=
  if_neg (ne_true_of_eq_false h)

theorem Timer.advanceTima_below {c : Nat} {t : Timer} (h : t.tac.getLsbD 2 = true)
    (hc : t.timaCounter + c < threshold t.tac) : t.advanceTima c = ({ t with timaCounter := t.timaCounter + c }, false) := by
  simp [Timer.advanceTima, h, hc]

theorem Timer.advanceTima_overflow {c : Nat} {t : Timer} (h : t.tac.getLsbD 2 = true)
    (hc : threshold t.tac ≤ t.timaCounter + c) (hmax : t.tima = 0xFF) :
    t.advanceTima c = ({ t with timaCounter := 0, tima := t.tma }, true) := by
  simp [Timer.advanceTima, h, hc, hmax]

theorem Timer.advanceTima_step {c : Nat} {t : Timer} (h : t.tac.getLsbD 2 = true)
    (hc : threshold t.tac ≤ t.timaCounter + c) (hmax : t.tima ≠ 0xFF) :
    t.advanceTima c = ({ t with timaCounter := 0, tima := t.tima + 1 }, false) := by
  rw [Timer.advanceTima, if_pos h, if_pos hc, if_neg hmax]

@[simp] theorem Timer.advance_div (c : Nat) (t : Timer) : (t.advance c).1.div = (t.advanceDiv c).div :=
  Timer.advanceTima_div c _

@[simp] theorem Timer.advance_divCounter (c : Nat) (t : Timer) : (t.advance c).1.divCounter = (t.advanceDiv c).divCounter :=
  Timer.advanceTima_divCounter c _

@[simp] theorem Timer.advance_tma (c : Nat) (t : Timer) : (t.advance c).1.tma = t.tma := by
  simp [Timer.advance]

@[simp] theorem Timer.advance_tac (c : Nat) (t : Timer) : (t.advance c).1.tac = t.tac := by
  simp [Timer.advance]

theorem Timer.advance_disabled {c : Nat} {t : Timer} (h : t.tac.getLsbD 2 = false) :
    (t.advance c).1.timaCounter = t.timaCounter ∧ (t.advance c).1.tima = t.tima ∧ (t.advance c).2 = false := by
  rw [Timer.advance, Timer.advanceTima_disabled (by simpa using h)]
  simp

theorem Timer.advance_below {c : Nat} {t : Timer} (h : t.tac.getLsbD 2 = true) (hc : t.timaCounter + c < threshold t.tac) :
    (t.advance c).1.timaCounter = t.timaCounter + c ∧ (t.advance c).1.tima = t.tima ∧ (t.advance c).2 = false := by
  rw [Timer.advance, Timer.advanceTima_below (by simpa using h) (by simpa using hc)]
  simp

theorem Timer.advance_overflow {c : Nat} {t : Timer} (h : t.tac.getLsbD 2 = true)
    (hc : threshold t.tac ≤ t.timaCounter + c) (hmax : t.tima = 0xFF) :
    (t.advance c).1.timaCounter = 0 ∧ (t.advance c).1.tima = t.tma ∧ (t.advance c).2 = true := by
  rw [Timer.advance, Timer.advanceTima_overflow (by simpa using h) (by simpa using hc) (by simpa using hmax)]
  simp

theorem Timer.advance_step {c : Nat} {t : Timer} (h : t.tac.getLsbD 2 = true)
    (hc : threshold t.tac ≤ t.timaCounter + c) (hmax : t.tima ≠ 0xFF) :
    (t.advance c).1.timaCounter = 0 ∧ (t.advance c).1.tima = t.tima + 1 ∧ (t.advance c).2 = false := by
  rw [Timer.advance, Timer.advanceTima_step (by simpa using h) (by simpa using hc) (by simpa using hmax)]
  simp

/-- TAC[1:0] as a number. -/
theorem tac_low_toNat (tac : Byte) : (tac.extractLsb' 0 2).toNat = tac.toNat % 4 := by
  simp

/-- The four thresholds by TAC[1:0] (R25). -/
theorem threshold_eq (tac : Byte) : threshold tac =
    if tac.toNat % 4 = 0 then 1024 else if tac.toNat % 4 = 1 then 16 else if tac.toNat % 4 = 2 then 64 else 256 := by
  have hlow (k : BitVec 2) : (tac.extractLsb' 0 2 = k) = (tac.toNat % 4 = k.toNat) := by
    rw [← tac_low_toNat, BitVec.toNat_inj]
  simp [threshold, hlow]

/-- Settles O19: each clause is one case of the divider's or the counter's part. -/
theorem timerAdvance : Obligations.TimerAdvance := by
  intro c t
  refine ⟨fun h => ?_, fun h => ?_, Timer.advance_disabled, Timer.advance_below, Timer.advance_overflow, Timer.advance_step,
    Timer.advance_tma c t, Timer.advance_tac c t, fun h => ?_, fun h => ?_, fun h => ?_, fun h => ?_⟩
  · simp [Timer.advanceDiv_of_le h]
  · simp [Timer.advanceDiv_of_lt h]
  all_goals simp [threshold_eq, h]

end Sys2Proof.Machine
end

section
/-! Chunks of cycles: the divider's period and the counter's overflows, O21 and O22 (spec/90_conflicts.md C1;
95_test_vectors.md 1.9). -/

namespace Sys2Proof.Machine

/-- The divider's counter takes 63 chunks of 4 cycles and restarts at the 64th, since 252 + 4 reaches 255. -/
theorem Timer.advance_four {t : Timer} {m : Nat} (h : t.divCounter = 4 * m) (hm : m < 64) :
    (t.advance 4).1.div = t.div + BitVec.ofNat 8 ((m + 1) / 64) ∧ (t.advance 4).1.divCounter = 4 * ((m + 1) % 64) := by
  rw [Timer.advance_div, Timer.advance_divCounter]
  by_cases hlast : m = 63
  · rw [Timer.advanceDiv_of_le (by omega), hlast]
    exact ⟨rfl, rfl⟩
  · rw [Timer.advanceDiv_of_lt (by omega), show (m + 1) / 64 = 0 by omega]
    exact ⟨(BitVec.add_zero t.div).symm, by simp only; omega⟩

/-- `k` chunks of 4 cycles from the `m`-th of a period of 64. -/
theorem Timer.chunks_four (k : Nat) {t : Timer} {m : Nat} (h : t.divCounter = 4 * m) (hm : m < 64) :
    (Timer.chunks 4 k t).1.div = t.div + BitVec.ofNat 8 ((m + k) / 64) ∧
      (Timer.chunks 4 k t).1.divCounter = 4 * ((m + k) % 64) := by
  induction k generalizing t m with
  | zero => simp [Timer.chunks, h, Nat.div_eq_of_lt hm, Nat.mod_eq_of_lt hm]
  | succ k ih =>
    obtain ⟨hdiv, hcounter⟩ := Timer.advance_four h hm
    obtain ⟨ihdiv, ihcounter⟩ := ih hcounter (Nat.mod_lt _ (by omega))
    refine ⟨?_, ?_⟩
    · rw [Timer.chunks, ihdiv, hdiv, BitVec.add_assoc, ← BitVec.ofNat_add]
      congr 2
      omega
    · rw [Timer.chunks, ihcounter]
      omega

/-- Settles O21: the period of 64 chunks, begun at its start. -/
theorem dividerPeriod : Obligations.DividerPeriod := by
  intro t k h
  simpa using Timer.chunks_four k (m := 0) h (by omega)

/-- A chunk of 16 cycles at 16 cycles per increment steps TIMA; past 0xFF the reload from TMA = 0 is the step. -/
theorem Timer.advance_sixteen {t : Timer} (htac : t.tac = 0x05) (hcounter : t.timaCounter = 0) (htma : t.tma = 0x00) :
    (t.advance 16).1.timaCounter = 0 ∧ (t.advance 16).1.tima = t.tima + 1 ∧ (t.advance 16).2 = decide (t.tima = 0xFF) := by
  have hon : t.tac.getLsbD 2 = true := by rw [htac]; rfl
  have hreach : threshold t.tac ≤ t.timaCounter + 16 := by rw [htac, hcounter]; decide
  by_cases hmax : t.tima = 0xFF
  · obtain ⟨h0, htima, hirq⟩ := Timer.advance_overflow hon hreach hmax
    exact ⟨h0, by rw [htima, htma, hmax]; rfl, by rw [hirq, hmax]; rfl⟩
  · obtain ⟨h0, htima, hirq⟩ := Timer.advance_step hon hreach hmax
    exact ⟨h0, htima, by rw [hirq, decide_eq_false hmax]⟩

/-- Settles O22: each chunk steps TIMA and requests when it was 0xFF, so the requests count the carries out of it. -/
theorem counterOverflowCount : Obligations.CounterOverflowCount := by
  intro t k htac hcounter htma
  induction k generalizing t with
  | zero => exact ⟨(BitVec.add_zero t.tima).symm, (Nat.div_eq_of_lt t.tima.isLt).symm, hcounter⟩
  | succ k ih =>
    obtain ⟨h0, htima, hirq⟩ := Timer.advance_sixteen htac hcounter htma
    obtain ⟨ihtima, ihirq, ihcounter⟩ :=
      ih (t.advance 16).1 ((Timer.advance_tac 16 t).trans htac) h0 ((Timer.advance_tma 16 t).trans htma)
    refine ⟨?_, ?_, ihcounter⟩
    · rw [Timer.chunks, ihtima, htima, BitVec.add_assoc, Nat.add_comm k 1, BitVec.ofNat_add]
      rfl
    · have hlt := t.tima.isLt
      have hnext : (t.tima + 1).toNat = (t.tima.toNat + 1) % 256 := BitVec.toNat_add _ _
      rw [Timer.chunks, ihirq, htima, hirq, hnext]
      by_cases hmax : t.tima = 0xFF
      · have hnat : t.tima.toNat = 255 := by rw [hmax]; rfl
        rw [decide_eq_true hmax, Bool.toNat_true]
        omega
      · have hnat : t.tima.toNat ≠ 255 := fun h => hmax (BitVec.eq_of_toNat_eq h)
        rw [decide_eq_false hmax, Bool.toNat_false]
        omega

end Sys2Proof.Machine
end

section
/-! Reported cycles, O20 (spec/60_exceptions.md R215). -/

namespace Sys2Proof.Machine

/-- A nonzero byte written to any list is read back: the cell is listed at or before the first one of its address. -/
theorem Memory.read_write_same_of_ne (m : Memory) (a : Nat) {v : Byte} (hv : v ≠ Memory.unlisted) :
    (m.write a v).read a = v := by
  induction m with
  | nil => rw [Memory.write, if_neg hv, Memory.read_head]
  | cons c m ih =>
    obtain ⟨k, w⟩ := c
    rw [Memory.write]
    by_cases hlt : a < k
    · rw [if_pos hlt, if_neg hv, Memory.read_head]
    · by_cases heq : a = k
      · rw [if_neg hlt, if_pos heq, if_neg hv, Memory.read_head]
      · rw [if_neg hlt, if_neg heq, Memory.read, if_neg heq, ih]

theorem State.reportCycles_of_quiet {c : Nat} {s : State} (h : (s.timer.advance c).2 = false) :
    s.reportCycles c = { s with timer := (s.timer.advance c).1 } := by
  simp [State.reportCycles, h]

theorem State.reportCycles_of_overflow {c : Nat} {s : State} (h : (s.timer.advance c).2 = true) :
    s.reportCycles c = { s with timer := (s.timer.advance c).1, mem := s.mem.write 0xFF0F (s.ifReg ||| 0x04) } :=
  if_pos h

/-- The byte ORed with bit 2 is not zero. -/
theorem or_four_ne_unlisted (v : Byte) : v ||| 0x04 ≠ Memory.unlisted := by
  intro h
  have hbit := congrArg (fun b : Byte => b.getLsbD 2) h
  simp [Memory.unlisted] at hbit

/-- Settles O20: the two cases of the report; bit 2 makes the byte written nonzero, so it reads back from any list. -/
theorem cyclesReported : Obligations.CyclesReported := by
  refine fun c s => ⟨State.reportCycles_of_quiet, fun h => ?_⟩
  rw [State.reportCycles_of_overflow h]
  exact ⟨rfl, Memory.read_write_same_of_ne _ _ (or_four_ne_unlisted _), Memory.read_write_ne _ _ (by decide)⟩

end Sys2Proof.Machine
end

section
/-! The sources and their priority, and O23 (spec/60_exceptions.md R200, R206, R207). -/

namespace Sys2Proof.Machine

/-- The stored byte IF is what 0xFF0F reads. -/
theorem State.ifReg_eq_memRead (s : State) : s.ifReg = s.memRead 0xFF0F := rfl

theorem Source.vector_eq (i : Source) : i.vector = BitVec.ofNat 16 (0x40 + 8 * i.bit) := by
  cases i <;> rfl

theorem Source.bit_injective {i j : Source} (h : i.bit = j.bit) : i = j := by
  revert h
  cases i <;> cases j <;> decide

/-- A clear bit of every source below `i`, source by source. -/
theorem Source.forall_below_iff (v : Byte) (i : Source) : (∀ j : Source, j.bit < i.bit → v.getLsbD j.bit = false) ↔
    ∀ k < i.bit, v.getLsbD k = false := by
  refine ⟨fun h k hk => ?_, fun h j hj => h j.bit hj⟩
  have hk5 : k < 5 := by
    have : i.bit ≤ 4 := by cases i <;> decide
    omega
  obtain ⟨j, rfl⟩ : ∃ j : Source, j.bit = k := by
    interval_cases k
    · exact ⟨.vblank, rfl⟩
    · exact ⟨.lcd, rfl⟩
    · exact ⟨.timer, rfl⟩
    · exact ⟨.serial, rfl⟩
    · exact ⟨.joypad, rfl⟩
  exact h j hk

/-- The source taken is the lowest set bit. -/
theorem Source.ofSnapshot_eq_some_iff (v : Byte) (i : Source) : Source.ofSnapshot v = some i ↔
    v.getLsbD i.bit = true ∧ ∀ j : Source, j.bit < i.bit → v.getLsbD j.bit = false := by
  rw [Source.forall_below_iff]
  revert v
  cases i <;> decide

theorem Source.ofSnapshot_eq_none_iff : ∀ v : Byte, Source.ofSnapshot v = none ↔ v &&& 0x1F = 0 := by
  decide

/-- Settles O23: the snapshot reads two array cells, and the choice tests the bits from 0 up. -/
theorem interruptPriority : Obligations.InterruptPriority :=
  ⟨fun _ => rfl, Source.ofSnapshot_eq_some_iff, Source.ofSnapshot_eq_none_iff, Source.vector_eq,
    fun _ _ => Source.bit_injective⟩

end Sys2Proof.Machine
end

section
/-! The delayed enable, the wake-up and the interrupt check case by case: O24 and O26 (spec/60_exceptions.md R204, R207-R209). -/

namespace Sys2Proof.Machine

theorem State.applyDelayedIme_eq (sched0 : Bool) (s : State) : s.applyDelayedIme sched0 =
    if sched0 = true ∧ s.imeScheduled = true then { s with ime := true, imeScheduled := false } else s := by
  simp only [State.applyDelayedIme, Bool.and_eq_true]

theorem State.wake_of_pending {s : State} (hh : s.halted = true) (hs : s.snapshot ≠ 0) :
    s.wake = { s with halted := false } :=
  if_pos (by rw [hh, Bool.true_and]; exact bne_iff_ne.2 hs)

theorem State.wake_of_quiet {s : State} (h : s.halted = false ∨ s.snapshot = 0) : s.wake = s := by
  rcases h with h | h <;> simp [State.wake, h]

/-- Settles O26: the two operations are their conditions. -/
theorem delayedEnableAndWakeUp : Obligations.DelayedEnableAndWakeUp :=
  ⟨State.applyDelayedIme_eq, fun _ => ⟨State.wake_of_pending, State.wake_of_quiet⟩⟩

theorem State.interruptCheck_of_disabled {s : State} (h : s.ime = false) : s.interruptCheck = s :=
  if_neg (ne_true_of_eq_false h)

theorem State.interruptCheck_of_none {s : State} (h : s.ime = true) (hi : Source.ofSnapshot s.snapshot = none) :
    s.interruptCheck = s.setIf 0x00 := by
  rw [State.interruptCheck, if_pos h, hi]

theorem State.interruptCheck_of_some {s : State} {i : Source} (h : s.ime = true)
    (hi : Source.ofSnapshot s.snapshot = some i) : s.interruptCheck = (s.setIf 0x00).takeInterrupt i := by
  rw [State.interruptCheck, if_pos h, hi]

/-- Settles O24: the three cases of the check; a dispatch pushes pc after IF is cleared. -/
theorem interruptCheckAndDispatch : Obligations.InterruptCheckAndDispatch := by
  refine ⟨fun s => State.interruptCheck_of_disabled, fun s => State.interruptCheck_of_none, fun s i h hi => ⟨_, rfl, ?_, ?_⟩⟩
  · rw [State.interruptCheck_of_some h hi, State.takeInterrupt, State.push16_eq, Source.vector_eq]
    rfl
  · exact s.interruptCheck_regs

end Sys2Proof.Machine
end

section
/-! A dispatch that reports no cycles discards every request, O25 (spec/60_exceptions.md R207, R210). -/

namespace Sys2Proof.Machine

/-- No cycles change nothing while both counters are below their thresholds. -/
theorem Timer.advance_zero {t : Timer} (hdiv : t.divCounter < 255) (htima : t.timaCounter < threshold t.tac) :
    t.advance 0 = (t, false) := by
  have hdivider : t.advanceDiv 0 = t := Timer.advanceDiv_of_lt hdiv
  rw [Timer.advance, hdivider]
  cases hon : t.tac.getLsbD 2 with
  | false => exact Timer.advanceTima_disabled hon
  | true => exact Timer.advanceTima_below hon htima

theorem State.reportCycles_zero {s : State} (hdiv : s.timer.divCounter < 255)
    (htima : s.timer.timaCounter < threshold s.timer.tac) : s.reportCycles 0 = s := by
  have hzero := Timer.advance_zero hdiv htima
  rw [State.reportCycles_of_quiet (by rw [hzero]), hzero]

/-- A push outside the Timer's addresses leaves the Timer. -/
theorem State.push16_timer {s : State} (v : Word) (hhi : s.sp - 1 < 0xFF04 ∨ 0xFF07 < s.sp - 1)
    (hlo : s.sp - 2 < 0xFF04 ∨ 0xFF07 < s.sp - 2) : (s.push16 v).timer = s.timer := by
  rw [State.push16_eq, State.memWrite_array _ _ hlo, State.memWrite_array _ _ hhi]

/-- The two bytes of a pushed word, high byte on top, and 0xFF04 keeps none (spec/46_stack.md R181, R185). -/
theorem State.memRead_push16 {s : State} (hwf : s.mem.wf = true) (v : Word) (hhi : s.sp - 1 ≠ 0xFF04)
    (hlo : s.sp - 2 ≠ 0xFF04) : (s.push16 v).memRead (s.sp - 1) = v.hi ∧ (s.push16 v).memRead (s.sp - 2) = v.lo := by
  have hne : s.sp - 1 ≠ s.sp - 2 := by bv_omega
  have hwf0 : ({ s with sp := s.sp - 2 } : State).mem.wf = true := hwf
  have hwf1 := State.memWrite_wf hwf0 (s.sp - 1) (v.extractLsb' 8 8)
  rw [State.push16_eq]
  exact ⟨(State.memRead_memWrite_ne _ _ hne).trans ((State.memRead_memWrite_same hwf0 _ _).trans (if_neg hhi)),
    (State.memRead_memWrite_same hwf1 _ _).trans (if_neg hlo)⟩

/-- Settles O25: IF is cleared before the push, the push misses it, and zero cycles request nothing. -/
theorem dispatchDiscardsRequests : Obligations.DispatchDiscardsRequests := by
  intro s i hinv hime hi hcycles htima hhiIf hloIf hout
  obtain ⟨hhi, hlo⟩ : (s.sp - 1 < 0xFF04 ∨ 0xFF07 < s.sp - 1) ∧ (s.sp - 2 < 0xFF04 ∨ 0xFF07 < s.sp - 2) := by
    simpa using hout
  have hwf := State.setIf_wf hinv.memCanonical 0x00
  have htimer : ((s.setIf 0x00).push16 s.pc).timer = s.timer := State.push16_timer _ hhi hlo
  have hcheck : s.interruptCheck = { (s.setIf 0x00).push16 s.pc with
      pc := i.vector, ime := false, imeScheduled := false, halted := false } := by
    rw [State.interruptCheck_of_some hime hi, State.takeInterrupt, State.setIf_params, hcycles]
    refine State.reportCycles_zero ?_ ?_
    · exact htimer ▸ hinv.divBound
    · exact htimer ▸ htima
  have hcleared : ((s.setIf 0x00).push16 s.pc).ifReg = 0x00 := by
    rw [State.ifReg_eq_memRead]
    refine ((MemoryFrame.push16 _ _).read 0xFF0F ?_).trans ?_
    · simpa using ⟨hhiIf.symm, hloIf.symm⟩
    · exact (Memory.read_write hinv.memCanonical 0xFF0F 0xFF0F 0x00).trans (if_pos rfl)
  obtain ⟨hhiByte, hloByte⟩ := State.memRead_push16 hwf s.pc (ne_timerAddress hhi).1 (ne_timerAddress hlo).1
  rw [hcheck]
  exact ⟨hcleared, rfl, rfl, hhiByte, hloByte⟩

end Sys2Proof.Machine
end

section
/-! The invariant of CORE: what construction, every instruction and the operations around a body keep, and O2, O3 and O4
(spec/10_state.md R17, R24, R32). -/

namespace Sys2Proof.Machine

/-- Settles O2: every field of the constructed state. -/
theorem constructedEngine : Obligations.ConstructedEngine :=
  fun _ _ _ => ⟨rfl, rfl, rfl, rfl, rfl, rfl, rfl, rfl, rfl⟩

/-- Construction clears F[3:0] and both counters, and lists no cell. -/
theorem State.construct_inv (p : Params) (pc : Word) (r : Regs) : (State.construct p pc r).Inv where
  memCanonical := State.construct_mem_wf p pc r
  flagNibble := (BitVec.and_assoc r.f 0xF0 0x0F).trans BitVec.and_zero
  divBound := show 0 < 255 by omega
  timaBound := show 0 < 1024 by omega

/-- Settles O3: `State.reset` is a constructed state. -/
theorem constructedStatesMeetInv : Obligations.ConstructedStatesMeetInv :=
  ⟨State.construct_inv Params.default resetPc resetRegs, State.construct_inv⟩

/-- A state with the same F meets the invariant when its memory and Timer come from stores. -/
theorem State.Inv.of_memoryFrame {as : List Word} {s t : State} (h : s.Inv) (hframe : MemoryFrame as s t)
    (hf : t.regs.f &&& 0x0F = 0) : t.Inv where
  memCanonical := hframe.wf h.memCanonical
  flagNibble := hf
  divBound := lt_of_le_of_lt hframe.divCounter_le h.divBound
  timaBound := hframe.timaCounter ▸ h.timaBound

/-- The invariant speaks of F, the Timer and memory alone. -/
theorem State.Inv.congr {s t : State} (h : s.Inv) (hregs : t.regs = s.regs) (htimer : t.timer = s.timer)
    (hmem : t.mem = s.mem) : t.Inv :=
  h.of_memoryFrame (.of_eq [] htimer hmem) (hregs ▸ h.flagNibble)

/-- A completed instruction stores and follows its flags column, and so keeps the invariant. -/
theorem exec_inv {i : Instr} {s t : State} (h : exec i s = .next t) (hs : s.Inv) : t.Inv := by
  refine hs.of_memoryFrame (exec_memory h) ?_
  rw [(exec_flags h).2, hs.flagNibble, ite_self]

theorem State.Inv.setIf {s : State} (h : s.Inv) (v : Byte) : (s.setIf v).Inv :=
  ⟨State.setIf_wf h.memCanonical v, h.flagNibble, h.divBound, h.timaBound⟩

/-- A counter below 1024 stays below it: one that does not restart stays below its threshold. -/
theorem Timer.advance_timaCounter_lt (c : Nat) {t : Timer} (h : t.timaCounter < 1024) :
    (t.advance c).1.timaCounter < 1024 := by
  cases hon : t.tac.getLsbD 2 with
  | false => rwa [(Timer.advance_disabled hon).1]
  | true =>
    by_cases hc : t.timaCounter + c < threshold t.tac
    · rw [(Timer.advance_below hon hc).1]
      exact lt_of_lt_of_le hc (threshold_le t.tac).2
    · have hreach : threshold t.tac ≤ t.timaCounter + c := by omega
      by_cases hmax : t.tima = 0xFF
      · rw [(Timer.advance_overflow hon hreach hmax).1]
        omega
      · rw [(Timer.advance_step hon hreach hmax).1]
        omega

theorem State.Inv.reportCycles {s : State} (h : s.Inv) (c : Nat) : (s.reportCycles c).Inv where
  memCanonical := State.reportCycles_wf h.memCanonical c
  flagNibble := by rw [State.reportCycles_regs]; exact h.flagNibble
  divBound := by
    rw [State.reportCycles_timer, Timer.advance_divCounter]
    exact Timer.advanceDiv_divCounter_lt c s.timer
  timaBound := by
    rw [State.reportCycles_timer]
    exact Timer.advance_timaCounter_lt c h.timaBound

theorem State.Inv.push16 {s : State} (h : s.Inv) (v : Word) : (s.push16 v).Inv :=
  h.of_memoryFrame (.push16 s v) (by rw [State.push16_regs]; exact h.flagNibble)

theorem State.Inv.takeInterrupt {s : State} (h : s.Inv) (i : Source) : (s.takeInterrupt i).Inv :=
  ((h.push16 s.pc).congr (t := { s.push16 s.pc with pc := i.vector, ime := false, imeScheduled := false, halted := false })
    rfl rfl rfl).reportCycles _

theorem State.Inv.interruptCheck {s : State} (h : s.Inv) : s.interruptCheck.Inv := by
  cases hime : s.ime with
  | false => rwa [State.interruptCheck_of_disabled hime]
  | true =>
    cases hi : Source.ofSnapshot s.snapshot with
    | none => rw [State.interruptCheck_of_none hime hi]; exact h.setIf _
    | some i => rw [State.interruptCheck_of_some hime hi]; exact (h.setIf _).takeInterrupt i

theorem State.Inv.complete {s : State} (h : s.Inv) (sched0 : Bool) (c : Nat) : (s.complete sched0 c).Inv := by
  refine State.Inv.interruptCheck (State.Inv.congr (h.reportCycles c) ?_ ?_ ?_) <;> simp

theorem State.haltedStep_eq (s : State) : s.haltedStep = s.complete s.imeScheduled 4 := rfl

/-- Settles O4: the body, the report and the tail keep the invariant and the parameters. -/
theorem stepKeepsInv : Obligations.StepKeepsInv := by
  intro s t hs ht
  obtain ⟨-, rfl⟩ | ⟨-, u, hu, rfl⟩ := step_next.1 ht
  · rw [State.haltedStep_eq]
    exact ⟨hs.complete _ _, State.complete_params ..⟩
  · have hpast : (s.advancePc s.fetch.length).Inv := hs.congr rfl rfl rfl
    exact ⟨(exec_inv hu hpast).complete _ _, (State.complete_params ..).trans (exec_registers hu).params⟩

end Sys2Proof.Machine
end

section
/-! The step around a body: O14 and O16 (spec/30_encoding.md R54; 47_system.md R193). -/

namespace Sys2Proof.Machine

/-- Three bytes that decode are read as the same instruction by the fetch. -/
theorem decode3_of_decode {b0 b1 b2 : Byte} {i : Instr} {rest : List Byte} (h : decode [b0, b1, b2] = .ok (i, rest)) :
    decode3 b0 b1 b2 = i := by
  cases hc : primaryTable b0 <;> simp only [decode, hc, Except.ok.injEq, Prod.mk.injEq] at h <;>
    simp only [decode3, hc, Cell.read, h]

/-- A step of a core that is not halted, when the fetch reads `i` and its body completes. -/
theorem step_of_exec {s t : State} {i : Instr} (hh : s.halted = false) (hi : s.fetch = i)
    (ht : exec i (s.advancePc i.length) = .next t) : step s = .next (t.complete s.imeScheduled (cost i s)) := by
  subst hi
  exact step_next.2 (.inr ⟨hh, t, ht, rfl⟩)

/-- Settles O14: the fetch reads the decoded instruction, and the step is its body's outcome. -/
theorem stepRunsDecodedInstruction : Obligations.StepRunsDecodedInstruction := by
  intro s i rest hh hdecode
  have hi : s.fetch = i := decode3_of_decode hdecode
  refine ⟨fun t ht => step_of_exec hh hi ht, fun e he => ?_, if_neg (ne_true_of_eq_false hh)⟩
  subst hi
  exact step_fault.2 ⟨hh, he⟩

/-- With IME false, nothing scheduled and no enabled request, the tail leaves even a halted core as it is. -/
theorem State.stepTail_waiting {s : State} (b : Bool) (hime : s.ime = false) (hsched : s.imeScheduled = false)
    (hs : s.snapshot = 0) : s.stepTail b = s := by
  rw [State.stepTail, State.applyDelayedIme_eq, if_neg (by simp [hsched]), State.wake_of_quiet (.inr hs),
    State.interruptCheck_of_disabled hime]

/-- Settles O16: the halted step is the report of 4 cycles and the tail, which does nothing while nothing is enabled. -/
theorem haltedStepWaits : Obligations.HaltedStepWaits := by
  intro s hh
  refine ⟨step_next.2 (.inl ⟨hh, rfl⟩), if_pos hh, s.reportCycles_regs 4, s.reportCycles_sp 4, s.reportCycles_pc 4,
    fun hs hime hsched hquiet => step_next.2 (.inl ⟨hh, ?_⟩)⟩
  rw [State.haltedStep, State.reportCycles_of_quiet hquiet]
  exact (State.stepTail_waiting (s := { s with timer := (s.timer.advance 4).1 }) _ hime hsched hs).symm

end Sys2Proof.Machine
end

section
/-! A table word placed at pc is what the next step fetches, O15 (log entry 11). -/

namespace Sys2Proof.Machine

@[simp] theorem State.poke_pc (s : State) (a : Word) (v : Byte) : (s.poke a v).pc = s.pc := by
  unfold State.poke
  split
  · rfl
  · exact s.memWrite_pc a v

@[simp] theorem State.poke_halted (s : State) (a : Word) (v : Byte) : (s.poke a v).halted = s.halted := by
  unfold State.poke
  split
  · rfl
  · exact s.memWrite_halted a v

/-- What is poked is read, at the timer addresses too. -/
theorem State.memRead_poke_same {s : State} (hwf : s.mem.wf = true) (a : Word) (v : Byte) : (s.poke a v).memRead a = v := by
  unfold State.poke
  split
  next h => subst h; rfl
  next h => exact (State.memRead_memWrite_same hwf a v).trans (if_neg h)

theorem State.memRead_poke_ne (s : State) {a b : Word} (v : Byte) (hb : b ≠ a) : (s.poke a v).memRead b = s.memRead b := by
  unfold State.poke
  split
  next h =>
    subst h
    simp only [State.memRead, if_neg hb]
  next h => exact State.memRead_memWrite_ne s v hb

/-- The fetch after placing three bytes reads the three bytes. -/
theorem State.fetch_placeAtPc {s : State} (hwf : s.mem.wf = true) (bs : Byte × Byte × Byte) :
    (s.placeAtPc bs).fetch = decode3 bs.1 bs.2.1 bs.2.2 := by
  have h01 : s.pc ≠ s.pc + 1 := by bv_omega
  have h02 : s.pc ≠ s.pc + 2 := by bv_omega
  have h12 : s.pc + 1 ≠ s.pc + 2 := by bv_omega
  have hwf0 : ({ s with halted := false } : State).mem.wf = true := hwf
  have hwf1 := State.poke_wf hwf0 s.pc bs.1
  have hwf2 := State.poke_wf hwf1 (s.pc + 1) bs.2.1
  have hpc : (s.placeAtPc bs).pc = s.pc := by simp [State.placeAtPc]
  rw [State.fetch, hpc, State.placeAtPc, State.memRead_poke_same hwf2, State.memRead_poke_ne _ _ h12,
    State.memRead_poke_same hwf1, State.memRead_poke_ne _ _ h02, State.memRead_poke_ne _ _ h01,
    State.memRead_poke_same hwf0]

/-- Settles O15: three pokes at consecutive addresses, read back by the fetch. -/
theorem placedWordIsFetched : Obligations.PlacedWordIsFetched := by
  intro s nbits w hwf
  refine ⟨by simp [State.withFetchWord, State.placeAtPc], by simp [State.withFetchWord, State.placeAtPc], ?_⟩
  rw [State.withFetchWord, State.fetch_placeAtPc hwf, decodeTableWord]

end Sys2Proof.Machine
end

section
/-! Which bodies raise, and O17 (spec/60_exceptions.md R195-R197; 47_system.md R189, R190, R192). -/

namespace Sys2Proof.Machine

/-- The rows that raise `e` in the state `s`. -/
def Raises (i : Instr) (s : State) (e : Fault) : Prop :=
  (∃ op, (op, i) ∈ unsupportedRows ∧ e = .unsupported op) ∨
  (∃ n8, i = .stop n8 ∧ e = .unimplemented 0x10) ∨
  (i = .halt ∧ s.ime = false ∧ s.imeScheduled = false ∧ s.snapshot ≠ 0 ∧ e = .unimplemented 0x76)

/-- A body completes, or raises what its row says. -/
theorem RowBody.completes_or_raises {i : Instr} {s : State} {r : Result} (h : RowBody i s r) :
    (∃ t, r = .next t) ∨ ∃ e, r = .fault e ∧ Raises i s e := by
  cases h
  case unsupported op h => exact .inr ⟨_, rfl, .inl ⟨op, h, rfl⟩⟩
  case stop n8 h => exact .inr ⟨_, rfl, .inr (.inl ⟨n8, h, rfl⟩)⟩
  case halt h =>
    unfold haltBody
    split
    next hraise =>
      obtain ⟨hime, hsched, hs⟩ := hraise
      exact .inr ⟨_, rfl, .inr (.inr ⟨h, hime, hsched, hs, rfl⟩)⟩
    next => exact .inl ⟨_, rfl⟩
  case jumpIf taken a h => exact .inl ⟨_, jumpIf_next.2 rfl⟩
  case callIf taken a h => exact .inl ⟨_, callIf_next.2 rfl⟩
  case retIf taken h => exact .inl ⟨_, retIf_next.2 rfl⟩
  all_goals exact .inl ⟨_, rfl⟩

theorem exec_of_raises {i : Instr} {s : State} {e : Fault} (h : Raises i s e) : exec i s = .fault e := by
  rcases h with ⟨op, hmem, rfl⟩ | ⟨n8, rfl, rfl⟩ | ⟨rfl, hime, hsched, hs, rfl⟩
  · exact (stopAndUnsupportedRaise.2.1 (op, i) hmem 0 0 s).2.2
  · rfl
  · exact if_pos ⟨hime, hsched, hs⟩

theorem exec_fault_iff {i : Instr} {s : State} {e : Fault} : exec i s = .fault e ↔ Raises i s e := by
  refine ⟨fun h => ?_, exec_of_raises⟩
  obtain ⟨t, ht⟩ | ⟨e', he', hraise⟩ := (exec_rowBody s i).completes_or_raises
  · cases h.symm.trans ht
  · cases h.symm.trans he'
    exact hraise

theorem exec_ne_refused (i : Instr) (s : State) (r : Refusal) : exec i s ≠ .refused r := by
  intro h
  obtain ⟨t, ht⟩ | ⟨e, he, -⟩ := (exec_rowBody s i).completes_or_raises
  · cases h.symm.trans ht
  · cases h.symm.trans he

/-- The encoding of the fetched instruction begins with the byte at pc. -/
theorem State.encode_fetch (s : State) : (encode s.fetch).head? = some (s.memRead s.pc) := encode_decode3 _ _ _

theorem State.fetch_eq_halt_iff (s : State) : s.fetch = .halt ↔ s.memRead s.pc = 0x76 := by
  refine ⟨fun h => ?_, fun h => ?_⟩
  · have hhead := s.encode_fetch
    rw [h] at hhead
    exact (Option.some.inj hhead).symm
  · rw [State.fetch, h]
    rfl

theorem State.fetch_eq_stop_iff (s : State) : (∃ n8, s.fetch = .stop n8) ↔ s.memRead s.pc = 0x10 := by
  refine ⟨fun ⟨n8, h⟩ => ?_, fun h => ⟨s.memRead (s.pc + 1), ?_⟩⟩
  · have hhead := s.encode_fetch
    rw [h] at hhead
    exact (Option.some.inj hhead).symm
  · rw [State.fetch, h]
    rfl

/-- An unassigned byte is fetched as its own row. -/
theorem State.fetch_mem_unsupportedRows_iff (s : State) (op : Byte) : (op, s.fetch) ∈ unsupportedRows ↔
    s.memRead s.pc = op ∧ op ∈ ([0xD3, 0xDB, 0xDD, 0xE3, 0xE4, 0xEB, 0xEC, 0xED, 0xF4, 0xFC, 0xFD] : List Byte) := by
  have hrows := stopAndUnsupportedRaise.2.1
  refine ⟨fun h => ⟨?_, List.mem_map_of_mem (f := Prod.fst) h⟩, fun ⟨hop, h⟩ => ?_⟩
  · have hhead := s.encode_fetch
    rw [(hrows _ h 0 0 s).2.1] at hhead
    exact (Option.some.inj hhead).symm
  · obtain ⟨⟨op', j⟩, hj, rfl⟩ : ∃ p ∈ unsupportedRows, p.1 = op := List.mem_map.1 h
    have hfetch : s.fetch = j := by
      rw [State.fetch, hop]
      exact (hrows _ hj _ _ s).1
    rw [hfetch]
    exact hj

/-- Settles O17: a step raises where its body does, and the opcode byte tells the rows that do. -/
theorem stepRaisesExactlyWhen : Obligations.StepRaisesExactlyWhen := by
  refine ⟨fun s e => ?_, fun s r h => exec_ne_refused _ _ r (step_refused.1 h).2⟩
  rw [step_fault, exec_fault_iff]
  refine and_congr_right fun _ => or_congr ?_ (or_congr ?_ ?_)
  · simp only [State.fetch_mem_unsupportedRows_iff]
    exact ⟨fun ⟨op, ⟨hop, hmem⟩, he⟩ => ⟨hop ▸ hmem, hop ▸ he⟩, fun ⟨hmem, he⟩ => ⟨_, ⟨rfl, hmem⟩, he⟩⟩
  · rw [← State.fetch_eq_stop_iff]
    exact ⟨fun ⟨n8, h, he⟩ => ⟨⟨n8, h⟩, he⟩, fun ⟨⟨n8, h⟩, he⟩ => ⟨n8, h, he⟩⟩
  · rw [← State.fetch_eq_halt_iff]
    rfl

end Sys2Proof.Machine
end

section
/-! The cost columns: bounds and the conditional rows, and O18 (spec/30_encoding.md R70). -/

namespace Sys2Proof.Machine

theorem cyclesColumn_bounded (i : Instr) : cyclesColumn i % 4 = 0 ∧ cyclesColumn i ≤ 24 := by
  cases i <;> dsimp only [cyclesColumn] <;> decide

/-- The rows with a taken cost, by their condition. -/
theorem takenColumn_eq_some {i : Instr} {cc : Cond} {n : Nat} (h : takenColumn i = some (cc, n)) :
    (∃ e8, i = jrCond e8 cc ∧ n = 12) ∨ (∃ a16, i = jpCond a16 cc ∧ n = 16) ∨ (∃ a16, i = callCond a16 cc ∧ n = 24) ∨
      (i = retCond cc ∧ n = 20) := by
  cases i
  case jr_nz_e8 e | jr_z_e8 e | jr_nc_e8 e | jr_c_e8 e => cases h; exact .inl ⟨e, rfl, rfl⟩
  case jp_nz_a16 a | jp_z_a16 a | jp_nc_a16 a | jp_c_a16 a => cases h; exact .inr (.inl ⟨a, rfl, rfl⟩)
  case call_nz_a16 a | call_z_a16 a | call_nc_a16 a | call_c_a16 a => cases h; exact .inr (.inr (.inl ⟨a, rfl, rfl⟩))
  case ret_nz | ret_z | ret_nc | ret_c => cases h; exact .inr (.inr (.inr ⟨rfl, rfl⟩))
  all_goals cases h

theorem takenColumn_jrCond (e8 : Byte) (cc : Cond) : takenColumn (jrCond e8 cc) = some (cc, 12) := by
  cases cc <;> rfl

theorem takenColumn_jpCond (a16 : Word) (cc : Cond) : takenColumn (jpCond a16 cc) = some (cc, 16) := by
  cases cc <;> rfl

theorem takenColumn_callCond (a16 : Word) (cc : Cond) : takenColumn (callCond a16 cc) = some (cc, 24) := by
  cases cc <;> rfl

theorem takenColumn_retCond (cc : Cond) : takenColumn (retCond cc) = some (cc, 20) := by
  cases cc <;> rfl

/-- A conditional row costs its taken column when it is taken in mode Actual, else its cycles column (R70). -/
theorem cost_of_takenColumn_some {i : Instr} {cc : Cond} {n : Nat} (h : takenColumn i = some (cc, n)) (s : State) :
    cost i s = if s.params.condCostMode = .actual ∧ s.cond cc = true then n else cyclesColumn i := by
  rw [cost, h]

theorem cost_bounded (i : Instr) (s : State) : cost i s % 4 = 0 ∧ cost i s ≤ 24 := by
  cases htaken : takenColumn i with
  | none =>
    rw [cost_of_takenColumn_none htaken]
    exact cyclesColumn_bounded _
  | some x =>
    obtain ⟨cc, n⟩ := x
    rw [cost_of_takenColumn_some htaken]
    split
    · obtain ⟨-, -, rfl⟩ | ⟨-, -, rfl⟩ | ⟨-, -, rfl⟩ | ⟨-, rfl⟩ := takenColumn_eq_some htaken <;> decide
    · exact cyclesColumn_bounded i

/-- Settles O18: the two columns are bounded, and the taken column has the sixteen conditional rows. -/
theorem costsAreBounded : Obligations.CostsAreBounded := by
  refine ⟨cost_bounded, fun i => ⟨fun ⟨⟨cc, n⟩, h⟩ => ?_, ?_⟩⟩
  · obtain ⟨e8, hi, -⟩ | ⟨a16, hi, -⟩ | ⟨a16, hi, -⟩ | ⟨hi, -⟩ := takenColumn_eq_some h
    · exact .inl ⟨e8, cc, hi⟩
    · exact .inr (.inl ⟨a16, cc, hi⟩)
    · exact .inr (.inr (.inl ⟨a16, cc, hi⟩))
    · exact .inr (.inr (.inr ⟨cc, hi⟩))
  · rintro (⟨e8, cc, rfl⟩ | ⟨a16, cc, rfl⟩ | ⟨a16, cc, rfl⟩ | ⟨cc, rfl⟩)
    · exact ⟨_, takenColumn_jrCond e8 cc⟩
    · exact ⟨_, takenColumn_jpCond a16 cc⟩
    · exact ⟨_, takenColumn_callCond a16 cc⟩
    · exact ⟨_, takenColumn_retCond cc⟩

end Sys2Proof.Machine
end

section
/-! Steps that end with IME true, and O28 (spec/60_exceptions.md R204, R207). -/

namespace Sys2Proof.Machine

/-- A check that ends with IME true took no interrupt: it cleared IF and nothing else. -/
theorem State.interruptCheck_of_ime_true {s : State} (h : s.interruptCheck.ime = true) :
    s.ime = true ∧ s.interruptCheck = s.setIf 0x00 := by
  cases hime : s.ime with
  | false =>
    rw [State.interruptCheck_of_disabled hime, hime] at h
    cases h
  | true =>
    cases hi : Source.ofSnapshot s.snapshot with
    | none => exact ⟨rfl, State.interruptCheck_of_none hime hi⟩
    | some i =>
      rw [State.interruptCheck_of_some hime hi, State.takeInterrupt_ime] at h
      cases h

/-- A tail that ends with IME true found it true, or applied a schedule and ended it. -/
theorem State.stepTail_of_ime_true {s : State} {sched0 : Bool} (h : (s.stepTail sched0).ime = true) :
    s.ime = true ∨ (sched0 = true ∧ (s.stepTail sched0).imeScheduled = false) := by
  obtain ⟨hime, hcheck⟩ := State.interruptCheck_of_ime_true h
  by_cases hsched : sched0 = true ∧ s.imeScheduled = true
  · refine .inr ⟨hsched.1, ?_⟩
    rw [State.stepTail, hcheck, State.setIf_imeScheduled, State.wake_imeScheduled, State.applyDelayedIme_eq, if_pos hsched]
  · rw [State.wake_ime, State.applyDelayedIme_eq, if_neg hsched] at hime
    exact .inl hime

theorem State.complete_ifReg_of_ime_true {s : State} (hwf : s.mem.wf = true) {sched0 : Bool} {c : Nat}
    (h : (s.complete sched0 c).ime = true) : (s.complete sched0 c).ifReg = 0x00 := by
  obtain ⟨-, hcheck⟩ := State.interruptCheck_of_ime_true h
  have hmem : ((s.reportCycles c).applyDelayedIme sched0).wake.mem.wf = true := by
    simpa using State.reportCycles_wf hwf c
  rw [State.complete, State.stepTail, hcheck]
  exact (Memory.read_write hmem 0xFF0F 0xFF0F 0x00).trans (if_pos rfl)

/-- Settles O28: IME is still true only after a check that cleared IF and dispatched nothing. -/
theorem requestsClearWhileEnabled : Obligations.RequestsClearWhileEnabled := by
  intro s t hs ht hime
  obtain ⟨-, rfl⟩ | ⟨-, u, hu, rfl⟩ := step_next.1 ht
  · exact State.complete_ifReg_of_ime_true hs.memCanonical hime
  · have hpast : (s.advancePc s.fetch.length).Inv := hs.congr rfl rfl rfl
    exact State.complete_ifReg_of_ime_true (exec_inv hu hpast).memCanonical hime

end Sys2Proof.Machine
end

section
/-! The steps of NOP, DI and EI, and O27, O53 and O54 (spec/47_system.md R186-R189; 45_control.md R174). -/

namespace Sys2Proof.Machine

theorem rowIs_nop : RowIs .nop [0x00] 4 := rowIs_of_columns rfl rfl rfl rfl

theorem rowIs_di : RowIs .di [0xF3] 4 := rowIs_of_columns rfl rfl rfl rfl

theorem rowIs_ei : RowIs .ei [0xFB] 4 := rowIs_of_columns rfl rfl rfl rfl

/-- A byte that is a row of its own is fetched as that row. -/
theorem State.fetch_of_opcode {s : State} {op : Byte} {i : Instr} (hop : s.memRead s.pc = op)
    (hi : primaryTable op = .p1 i) : s.fetch = i := by
  rw [State.fetch, decode3, hop, hi, Cell.read]

theorem step_nop {s : State} (hh : s.halted = false) (hop : s.memRead s.pc = 0x00) :
    step s = .next ((({ s with pc := s.pc + 1 }).reportCycles 4).stepTail s.imeScheduled) := by
  have hcost := rowIs_nop.2.2 s
  rw [step_of_exec hh (State.fetch_of_opcode hop rfl) rfl, hcost]
  rfl

/-- After DI nothing is scheduled and IME is false, so the tail does nothing. -/
theorem step_di {s : State} (hh : s.halted = false) (hop : s.memRead s.pc = 0xF3) :
    step s = .next (({ s with pc := s.pc + 1, ime := false, imeScheduled := false }).reportCycles 4) := by
  have hcost := rowIs_di.2.2 s
  rw [step_of_exec hh (State.fetch_of_opcode hop rfl) rfl, hcost, State.complete,
    State.stepTail_quiet _ (by simp) (.inr (by simp)) (by simpa using hh)]
  rfl

/-- From IME false with nothing scheduled, EI's own schedule is not applied in its step. -/
theorem step_ei {s : State} (hh : s.halted = false) (hop : s.memRead s.pc = 0xFB) (hime : s.ime = false)
    (hsched : s.imeScheduled = false) :
    step s = .next (({ s with pc := s.pc + 1, imeScheduled := true }).reportCycles 4) := by
  have hcost := rowIs_ei.2.2 s
  rw [step_of_exec hh (State.fetch_of_opcode hop rfl) rfl, hcost, State.complete,
    State.stepTail_quiet _ (by simpa using hime) (.inl hsched) (by simpa using hh)]
  rfl

/-- No body sets IME. -/
theorem exec_ime {i : Instr} {s t : State} (h : exec i s = .next t) (hime : t.ime = true) : s.ime = true := by
  by_cases hi : i = .di
  · subst hi
    cases h
    cases hime
  · rwa [(exec_registers h).ime hi] at hime

/-- Settles O27: only the delayed enable sets IME; DI clears the schedule before it, EI makes one after its start. -/
theorem enableRisesOneStepLate : Obligations.EnableRisesOneStepLate := by
  intro s t ht
  refine ⟨fun hime => ?_, fun hh hop => ?_, fun hh hop hime hsched => ?_⟩
  · obtain ⟨-, rfl⟩ | ⟨-, u, hu, rfl⟩ := step_next.1 ht
    · exact (State.stepTail_of_ime_true hime).imp_left fun h => by rwa [State.reportCycles_ime] at h
    · refine (State.stepTail_of_ime_true hime).imp_left fun h => ?_
      rw [State.reportCycles_ime] at h
      have hpast : (s.advancePc s.fetch.length).ime = true := exec_ime hu h
      exact hpast
  · cases (step_di hh hop).symm.trans ht
    exact ⟨State.reportCycles_ime .., State.reportCycles_imeScheduled ..⟩
  · cases (step_ei hh hop hime hsched).symm.trans ht
    exact ⟨(State.reportCycles_ime ..).trans hime, State.reportCycles_imeScheduled ..⟩

theorem State.reportCycles_ieReg (s : State) (c : Nat) : (s.reportCycles c).ieReg = s.ieReg := by
  cases hirq : (s.timer.advance c).2 with
  | false => rw [State.reportCycles_of_quiet hirq]; rfl
  | true => exact ((cyclesReported c s).2 hirq).2.2

theorem State.reportCycles_ifReg (s : State) (c : Nat) :
    (s.reportCycles c).ifReg = s.ifReg ∨ (s.reportCycles c).ifReg = s.ifReg ||| 0x04 := by
  cases hirq : (s.timer.advance c).2 with
  | false => rw [State.reportCycles_of_quiet hirq]; exact .inl rfl
  | true => exact .inr ((cyclesReported c s).2 hirq).2.1

/-- Settles O53: the two rows, their bodies and their steps; DI's step is the report alone. -/
theorem nopAndDisable : Obligations.NopAndDisable := by
  refine ⟨rowIs_nop, rowIs_di, fun s => ⟨rfl, rfl, step_nop, fun hh hop => ⟨_, step_di hh hop, ?_⟩⟩⟩
  exact ⟨State.reportCycles_ime .., State.reportCycles_imeScheduled .., State.reportCycles_pc .., State.reportCycles_sp ..,
    State.reportCycles_ieReg .., State.reportCycles_ifReg ..⟩

/-- RETI is a return that schedules the enable (R174). -/
theorem State.returnFromInterrupt_eq (s : State) : s.returnFromInterrupt =
    { s with sp := s.sp + 2, pc := s.memRead (s.sp + 1) ++ s.memRead s.sp, imeScheduled := true } := by
  rw [State.returnFromInterrupt, State.pop16_eq, State.pop16Value, mkWord]

/-- Settles O54: the three rows; HALT's two cases are the two sides of its test. -/
theorem enableHaltAndReturnFromInterrupt : Obligations.EnableHaltAndReturnFromInterrupt := by
  refine ⟨rowIs_ei, rowIs_of_columns rfl rfl rfl rfl, rowIs_of_columns rfl rfl rfl rfl, fun s => ⟨rfl, ?_, fun h => ?_, ?_⟩⟩
  · exact congrArg Host.Outcome.next s.returnFromInterrupt_eq
  · refine haltBody_next.2 ⟨fun ⟨hime, hsched, hs⟩ => ?_, rfl⟩
    rcases h with h | h | h
    · cases hime.symm.trans h
    · cases hsched.symm.trans h
    · exact hs h
  · exact fun hime hsched hs => if_pos ⟨hime, hsched, hs⟩

end Sys2Proof.Machine
end

section
/-! LD (a16),SP and the logic operations, O33 and O36 (spec/40_loads.md R92; 41_alu8.md R109-R117). -/

namespace Sys2Proof.Machine

/-- Settles O33: the row is `store16` of SP, its low byte first. -/
theorem storeStackPointer : Obligations.StoreStackPointer :=
  ⟨fun _ => rowIs_of_columns rfl rfl rfl rfl, fun _ _ => store16_next.2 rfl⟩

/-- The flags of a logic operation whose result is 0 exactly when `p`. -/
theorem logicFlags_eq {r : Byte} {h : Bool} {p : Prop} [Decidable p] (hp : r = 0 ↔ p) :
    logicFlags r h = { z := decide p, n := false, h := h, c := false } := by
  have hz : (r == 0) = decide p := by rw [beq_eq_decide, decide_eq_decide, hp]
  rw [logicFlags, hz]

theorem aluA_and (v : Byte) (s : State) : aluA .and v s = .next ((s.setA (s.regs.a &&& v)).setFlags
    { z := decide (s.regs.a &&& v = 0), n := false, h := true, c := false }) := by
  rw [aluA_next, aluResult, logicFlags_eq Iff.rfl]

theorem aluA_xor (v : Byte) (s : State) : aluA .xor v s = .next ((s.setA (s.regs.a ^^^ v)).setFlags
    { z := decide (s.regs.a = v), n := false, h := false, c := false }) := by
  rw [aluA_next, aluResult, logicFlags_eq BitVec.xor_eq_zero_iff]

theorem aluA_or (v : Byte) (s : State) : aluA .or v s = .next ((s.setA (s.regs.a ||| v)).setFlags
    { z := decide (s.regs.a = 0 ∧ v = 0), n := false, h := false, c := false }) := by
  rw [aluA_next, aluResult, logicFlags_eq (p := s.regs.a = 0 ∧ v = 0) BitVec.or_eq_zero_iff]

/-- Settles O36: every form is `aluA` at its operand. -/
theorem logicOperations : Obligations.LogicOperations :=
  ⟨forAluForms_of_aluA fun _ v _ _ hrow hexec => ⟨hrow, fun s => (hexec s).trans (aluA_and (v s) s)⟩,
    forAluForms_of_aluA fun _ v _ _ hrow hexec => ⟨hrow, fun s => (hexec s).trans (aluA_xor (v s) s)⟩,
    forAluForms_of_aluA fun _ v _ _ hrow hexec => ⟨hrow, fun s => (hexec s).trans (aluA_or (v s) s)⟩⟩

end Sys2Proof.Machine
end

section
/-! ADC and SBC in the two values of `adc_sbc_mode`, and O35 (spec/41_alu8.md R96). -/

namespace Sys2Proof.Machine

/-- Both modes leave the three-operand sum. -/
theorem adc8_result (mode : AdcSbcMode) (a v : Byte) (c : Bool) : (adc8 mode a v c).1 = a + v + if c then 1 else 0 := by
  cases mode <;> cases c
  · exact (BitVec.add_zero _).symm
  · exact add_right_comm a 1 v
  · rfl
  · rfl

theorem sbc8_result (mode : AdcSbcMode) (a v : Byte) (c : Bool) : (sbc8 mode a v c).1 = a - v - if c then 1 else 0 := by
  cases mode <;> cases c
  · exact (BitVec.sub_zero _).symm
  · exact sub_right_comm a 1 v
  · rfl
  · rfl

/-- In both modes Z says whether the result is 0. -/
theorem adc8_z_iff (mode : AdcSbcMode) (a v : Byte) (c : Bool) :
    (adc8 mode a v c).2.z = true ↔ (a.toNat + v.toNat + c.toNat) % 256 = 0 := by
  have hz : (adc8 mode a v c).2.z = ((adc8 mode a v c).1 == 0) := by cases mode <;> rfl
  rw [hz, adc8_result, beq_iff_eq]
  cases c
  · simp only [Bool.false_eq_true, if_false, Bool.toNat_false]
    bv_omega
  · simp only [if_true, Bool.toNat_true]
    bv_omega

theorem sbc8_z_iff (mode : AdcSbcMode) (a v : Byte) (c : Bool) :
    (sbc8 mode a v c).2.z = true ↔ (a.toNat + 256 - v.toNat) % 256 = c.toNat := by
  have hz : (sbc8 mode a v c).2.z = ((sbc8 mode a v c).1 == 0) := by cases mode <;> rfl
  rw [hz, sbc8_result, beq_iff_eq]
  cases c
  · simp only [Bool.false_eq_true, if_false, Bool.toNat_false]
    bv_omega
  · simp only [if_true, Bool.toNat_true]
    bv_omega

/-- With the carry clear the two modes are one addition. -/
theorem adc8_clear (mode : AdcSbcMode) (a v : Byte) : adc8 mode a v false = add8 a v := by
  cases mode
  · rfl
  · simp [adc8, add8, halfAdd]

theorem sbc8_clear (mode : AdcSbcMode) (a v : Byte) : sbc8 mode a v false = sub8 a v := by
  cases mode
  · rfl
  · simp [sbc8, sub8, halfSub]

/-- H and C of the three operands, in mode Hardware or with the carry clear. -/
theorem adc8_carries {mode : AdcSbcMode} {c : Bool} (h : mode = .hardware ∨ c = false) (a v : Byte) :
    ((adc8 mode a v c).2.h = true ↔ a.toNat % 16 + v.toNat % 16 + c.toNat > 15) ∧
    ((adc8 mode a v c).2.c = true ↔ a.toNat + v.toNat + c.toNat > 255) := by
  rcases h with rfl | rfl
  · simp only [adc8, nibble_toNat, decide_eq_true_eq, iff_self, and_self]
  · simp [adc8_clear, add8_eq]

theorem sbc8_borrows {mode : AdcSbcMode} {c : Bool} (h : mode = .hardware ∨ c = false) (a v : Byte) :
    ((sbc8 mode a v c).2.h = true ↔ a.toNat % 16 < v.toNat % 16 + c.toNat) ∧
    ((sbc8 mode a v c).2.c = true ↔ a.toNat < v.toNat + c.toNat) := by
  rcases h with rfl | rfl
  · simp only [sbc8, nibble_toNat, decide_eq_true_eq, iff_self, and_self]
  · simp [sbc8_clear, sub8_eq]

/-- H and C of the last of two additions, the first of which adds the carry (decision D14). -/
theorem adc8_doubleStep_carries (a v : Byte) :
    ((adc8 .doubleStep a v true).2.h = true ↔ (a.toNat + 1) % 16 + v.toNat % 16 > 15) ∧
    ((adc8 .doubleStep a v true).2.c = true ↔ (a.toNat + 1) % 256 + v.toNat > 255) := by
  have hlast : adc8 .doubleStep a v true = add8 (a + 1) v := rfl
  have hfirst : (a + 1).toNat = (a.toNat + 1) % 256 := BitVec.toNat_add _ _
  rw [hlast, add8_eq, hfirst]
  exact ⟨by simp only [decide_eq_true_eq]; omega, by simp only [decide_eq_true_eq]⟩

theorem sbc8_doubleStep_borrows (a v : Byte) :
    ((sbc8 .doubleStep a v true).2.h = true ↔ (a.toNat + 255) % 16 < v.toNat % 16) ∧
    ((sbc8 .doubleStep a v true).2.c = true ↔ (a.toNat + 255) % 256 < v.toNat) := by
  have hlast : sbc8 .doubleStep a v true = sub8 (a - 1) v := rfl
  have hfirst : (a - 1).toNat = (a.toNat + 255) % 256 := by bv_omega
  rw [hlast, sub8_eq, hfirst]
  exact ⟨by simp only [decide_eq_true_eq]; omega, by simp only [decide_eq_true_eq]⟩

/-- Settles O35: every form is `aluA` at its operand, with the result and the flags of `adc8` or `sbc8`. -/
theorem addSubtractWithCarry : Obligations.AddSubtractWithCarry := by
  refine ⟨forAluForms_of_aluA fun _ v _ _ hrow hexec => ⟨hrow, fun s => ?_⟩,
    forAluForms_of_aluA fun _ v _ _ hrow hexec => ⟨hrow, fun s => ?_⟩⟩
  · refine ⟨(adc8 s.params.adcSbcMode s.regs.a (v s) s.flagC).2, ?_, ?_, adc8_z_iff _ _ _ _, fun h => adc8_carries h _ _,
      fun hmode hc => ?_⟩
    · rw [hexec, ← adc8_result s.params.adcSbcMode]
      exact aluA_next.2 rfl
    · cases s.params.adcSbcMode <;> rfl
    · rw [hmode, hc]
      exact adc8_doubleStep_carries _ _
  · refine ⟨(sbc8 s.params.adcSbcMode s.regs.a (v s) s.flagC).2, ?_, ?_, sbc8_z_iff _ _ _ _, fun h => sbc8_borrows h _ _,
      fun hmode hc => ?_⟩
    · rw [hexec, ← sbc8_result s.params.adcSbcMode]
      exact aluA_next.2 rfl
    · cases s.params.adcSbcMode <;> rfl
    · rw [hmode, hc]
      exact sbc8_doubleStep_borrows _ _

end Sys2Proof.Machine
end

section
/-! DAA, and the packed-BCD sum it leaves after an addition: O38 and O39 (spec/41_alu8.md R125, R130). -/

namespace Sys2Proof.Machine

@[simp] theorem State.flagZ_setFlags (s : State) (fl : Flags) : (s.setFlags fl).flagZ = fl.z :=
  congrArg Flags.z (s.flags_setFlags fl)

@[simp] theorem State.flagN_setFlags (s : State) (fl : Flags) : (s.setFlags fl).flagN = fl.n :=
  congrArg Flags.n (s.flags_setFlags fl)

@[simp] theorem State.flagH_setFlags (s : State) (fl : Flags) : (s.setFlags fl).flagH = fl.h :=
  congrArg Flags.h (s.flags_setFlags fl)

/-- DAA after a subtraction: C is kept (R125). -/
theorem daaResult_subtract {a : Byte} {old : Flags} (h : old.n = true) : (daaResult a old).2.c = old.c ∧
    (daaResult a old).1 = a - ((if old.c then 0x60 else 0) + (if old.h then 0x06 else 0)) := by
  rw [daaResult, if_pos h]
  exact ⟨rfl, rfl⟩

/-- DAA after an addition: C is set where the high correction is made (R125). -/
theorem daaResult_add {a : Byte} {old : Flags} (h : old.n = false) :
    ((daaResult a old).2.c = true ↔ old.c = true ∨ a.toNat > 0x99) ∧
    (daaResult a old).1 = a + ((if old.c = true ∨ a.toNat > 0x99 then 0x60 else 0) +
      (if old.h = true ∨ a.toNat % 16 > 9 then 0x06 else 0)) := by
  rw [daaResult, if_neg (ne_true_of_eq_false h)]
  simp only [daaHigh, daaLow, nibble_toNat, Bool.or_eq_true, decide_eq_true_eq, iff_self, and_self]

/-- Z, N and H after DAA, in both of its cases. -/
theorem daaResult_flags (a : Byte) (old : Flags) : (daaResult a old).2.z = ((daaResult a old).1 == 0) ∧
    (daaResult a old).2.n = old.n ∧ (daaResult a old).2.h = false := by
  unfold daaResult
  split <;> exact ⟨rfl, rfl, rfl⟩

theorem exec_daa_eq (s : State) :
    exec .daa s = .next ((s.setA (daaResult s.regs.a s.flags).1).setFlags (daaResult s.regs.a s.flags).2) :=
  decimalAdjust_next.2 rfl

/-- The corrected sum of two packed-BCD numbers, by the sums `t` and `u` of their high and low digits: 6 carries out of the
low digit, 0x60 out of the high one. -/
theorem bcd_correction {t u high low : Nat} (ht : t ≤ 18) (hu : u ≤ 18) (hhigh : high = if 10 * t + u ≥ 100 then 0x60 else 0)
    (hlow : low = if u ≥ 10 then 0x06 else 0) :
    ∃ d₁ ≤ 9, ∃ d₀ ≤ 9, (16 * t + u + (high + low)) % 256 = 16 * d₁ + d₀ ∧ 10 * d₁ + d₀ = (10 * t + u) % 100 := by
  subst hhigh hlow
  by_cases hcarry : 10 * t + u ≥ 100 <;> by_cases hhalf : u ≥ 10 <;> simp only [hcarry, hhalf, if_true, if_false]
  · exact ⟨t - 9, by omega, u - 10, by omega, by omega, by omega⟩
  · exact ⟨t - 10, by omega, u, by omega, by omega, by omega⟩
  · exact ⟨t + 1, by omega, u - 10, by omega, by omega, by omega⟩
  · exact ⟨t, by omega, u, by omega, by omega, by omega⟩

/-- A low digit sum above 9 is seen as a half carry or as a low nibble above 9; a sum of 100 or more as a carry or as a
byte above 0x99; the two corrections then carry decimally. -/
theorem daaResult_add8 {a n : Byte} (ha : IsBcd a) (hn : IsBcd n) :
    IsBcd (daaResult (add8 a n).1 (add8 a n).2).1 ∧
    bcdValue (daaResult (add8 a n).1 (add8 a n).2).1 = (bcdValue a + bcdValue n) % 100 ∧
    ((daaResult (add8 a n).1 (add8 a n).2).2.c = true ↔ bcdValue a + bcdValue n ≥ 100) := by
  obtain ⟨ha1, ha0⟩ := ha
  obtain ⟨hn1, hn0⟩ := hn
  obtain ⟨hc, hr⟩ := daaResult_add (a := (add8 a n).1) (old := (add8 a n).2) rfl
  have hsum : (add8 a n).1.toNat = (a.toNat + n.toNat) % 256 := BitVec.toNat_add a n
  have hcarry : (add8 a n).2.c = true ↔ a.toNat + n.toNat > 255 := by simp [add8_eq]
  have hhalf : (add8 a n).2.h = true ↔ a.toNat % 16 + n.toNat % 16 > 15 := by simp [add8_eq]
  have hhigh : ((add8 a n).2.c = true ∨ (add8 a n).1.toNat > 0x99) ↔ bcdValue a + bcdValue n ≥ 100 := by
    rw [hcarry, hsum, bcdValue, bcdValue]
    omega
  have hlow : ((add8 a n).2.h = true ∨ (add8 a n).1.toNat % 16 > 9) ↔ a.toNat % 16 + n.toNat % 16 ≥ 10 := by
    rw [hhalf, hsum]
    omega
  simp only [hhigh, hlow] at hc hr
  have hnat : (daaResult (add8 a n).1 (add8 a n).2).1.toNat = (a.toNat + n.toNat +
      ((if bcdValue a + bcdValue n ≥ 100 then 0x60 else 0) + if a.toNat % 16 + n.toNat % 16 ≥ 10 then 0x06 else 0)) % 256 := by
    rw [hr, BitVec.toNat_add, hsum]
    split_ifs <;> simp
  have hdigits : bcdValue a + bcdValue n = 10 * (a.toNat / 16 + n.toNat / 16) + (a.toNat % 16 + n.toNat % 16) := by
    rw [bcdValue, bcdValue]
    omega
  obtain ⟨d₁, hd₁, d₀, hd₀, hbyte, hvalue⟩ :=
    bcd_correction (t := a.toNat / 16 + n.toNat / 16) (u := a.toNat % 16 + n.toNat % 16) (by omega) (by omega) rfl rfl
  have hbytes : a.toNat + n.toNat = 16 * (a.toNat / 16 + n.toNat / 16) + (a.toNat % 16 + n.toNat % 16) := by omega
  rw [hdigits, hbytes, hbyte] at hnat
  refine ⟨?_, ?_, hc⟩
  · rw [IsBcd, hnat]
    omega
  · rw [bcdValue, hnat, hdigits, ← hvalue]
    omega

/-- DAA from a state that `add8` of packed-BCD bytes left. -/
theorem exec_daa_after_add8 {t : State} {a n : Byte} (hreg : t.regs.a = (add8 a n).1) (hflags : t.flags = (add8 a n).2)
    (ha : IsBcd a) (hn : IsBcd n) : ∃ u : State, exec .daa t = .next u ∧ IsBcd u.regs.a ∧
      bcdValue u.regs.a = (bcdValue a + bcdValue n) % 100 ∧ (u.flagC = true ↔ bcdValue a + bcdValue n ≥ 100) ∧
      u.flagH = false := by
  obtain ⟨hbcd, hvalue, hcarry⟩ := daaResult_add8 ha hn
  refine ⟨_, exec_daa_eq t, ?_⟩
  rw [hreg, hflags, State.flagC_setFlags, State.flagH_setFlags]
  exact ⟨hbcd, hvalue, hcarry, (daaResult_flags _ _).2.2⟩

/-- Settles O39: ADD, and ADC with C clear in both modes, leave `add8` of the two bytes. -/
theorem decimalAdjustCorrectsAddition : Obligations.DecimalAdjustCorrectsAddition := by
  intro s n ha hn
  refine ⟨?_, fun hc => ?_⟩
  · obtain ⟨u, hu⟩ := exec_daa_after_add8 (t := (s.setA (add8 s.regs.a n).1).setFlags (add8 s.regs.a n).2) rfl
      (State.flags_setFlags _ _) ha hn
    exact ⟨_, u, aluA_next.2 rfl, hu⟩
  · have hclear : aluResult s.params.adcSbcMode .adc s.regs.a n s.flagC = add8 s.regs.a n := by
      rw [hc]
      exact adc8_clear _ _ _
    obtain ⟨u, hu⟩ := exec_daa_after_add8 (t := (s.setA (add8 s.regs.a n).1).setFlags (add8 s.regs.a n).2) rfl
      (State.flags_setFlags _ _) ha hn
    exact ⟨_, u, aluA_next.2 (by rw [hclear]), hu⟩

end Sys2Proof.Machine
end

section
/-! Control transfer: the rows by their condition, O47, O48 and O49 (spec/45_control.md R165-R176). -/

namespace Sys2Proof.Machine

/-- A conditional row is read off its columns. -/
theorem condRowIs_of_columns {i : Instr} {bytes : List Byte} {cc : Cond} {taken notTaken : Nat} (hencode : encode i = bytes)
    (hlength : i.length = bytes.length) (htaken : takenColumn i = some (cc, taken)) (hcycles : cyclesColumn i = notTaken) :
    CondRowIs i bytes cc taken notTaken :=
  ⟨hencode, hlength, fun s => by rw [cost_of_takenColumn_some htaken, hcycles]⟩

theorem condRowIs_jpCond (a : Word) (cc : Cond) :
    CondRowIs (jpCond a cc) [BitVec.ofNat 8 (0xC2 + 8 * cc.code), a.extractLsb' 0 8, a.extractLsb' 8 8] cc 16 12 := by
  cases cc <;> exact condRowIs_of_columns rfl rfl rfl rfl

theorem condRowIs_jrCond (e : Byte) (cc : Cond) : CondRowIs (jrCond e cc) [BitVec.ofNat 8 (0x20 + 8 * cc.code), e] cc 12 8 := by
  cases cc <;> exact condRowIs_of_columns rfl rfl rfl rfl

theorem condRowIs_callCond (a : Word) (cc : Cond) :
    CondRowIs (callCond a cc) [BitVec.ofNat 8 (0xC4 + 8 * cc.code), a.extractLsb' 0 8, a.extractLsb' 8 8] cc 24 12 := by
  cases cc <;> exact condRowIs_of_columns rfl rfl rfl rfl

theorem condRowIs_retCond (cc : Cond) : CondRowIs (retCond cc) [BitVec.ofNat 8 (0xC0 + 8 * cc.code)] cc 20 8 := by
  cases cc <;> exact condRowIs_of_columns rfl rfl rfl rfl

theorem exec_jpCond (a : Word) (cc : Cond) (s : State) : exec (jpCond a cc) s = jumpIf (s.cond cc) a s := by
  cases cc <;> rfl

theorem exec_jrCond (e : Byte) (cc : Cond) (s : State) : exec (jrCond e cc) s = jumpIf (s.cond cc) (s.pc + sext16 e) s := by
  cases cc <;> rfl

theorem exec_callCond (a : Word) (cc : Cond) (s : State) : exec (callCond a cc) s = callIf (s.cond cc) a s := by
  cases cc <;> rfl

theorem exec_retCond (cc : Cond) (s : State) : exec (retCond cc) s = retIf (s.cond cc) s := by
  cases cc <;> rfl

theorem rowIs_rstRow (k : Fin 8) : RowIs (rstRow k) [BitVec.ofNat 8 (0xC7 + 8 * k.val)] 16 := by
  fin_cases k <;> exact rowIs_of_columns rfl rfl rfl rfl

theorem exec_rstRow (k : Fin 8) (s : State) : exec (rstRow k) s = call (BitVec.ofNat 16 (8 * k.val)) s := by
  fin_cases k <;> rfl

/-- A return moves SP past the two bytes it reads into pc (spec/46_stack.md R183). -/
theorem ret_eq (s : State) : ({ s.pop16 with pc := s.pop16Value } : State) =
    { s with sp := s.sp + 2, pc := s.memRead (s.sp + 1) ++ s.memRead s.sp } := by
  rw [State.pop16_eq, State.pop16Value, mkWord]

/-- Settles O47: every row is `jump` or `jumpIf` of its target; JR's is the signed sum. -/
theorem jumps : Obligations.Jumps := by
  refine ⟨fun s => ⟨rfl, rfl, rfl, rfl⟩, fun a => ⟨rowIs_of_columns rfl rfl rfl rfl, fun s => jump_next.2 rfl⟩,
    fun cc a => ⟨condRowIs_jpCond a cc, fun s => ?_⟩, fun e => ⟨rowIs_of_columns rfl rfl rfl rfl, fun s => ?_⟩,
    fun cc e => ⟨condRowIs_jrCond e cc, fun s => ?_⟩, rowIs_of_columns rfl rfl rfl rfl, fun s => jump_next.2 rfl⟩
  · rw [exec_jpCond, jumpIf_next]
  · rw [← add_sext16]
    exact jump_next.2 rfl
  · rw [exec_jrCond, jumpIf_next, add_sext16]

/-- Settles O48: every row is `call` or `callIf` of its target. -/
theorem callsAndRestarts : Obligations.CallsAndRestarts := by
  refine ⟨fun a => ⟨rowIs_of_columns rfl rfl rfl rfl, fun s => call_next.2 rfl⟩,
    fun cc a => ⟨condRowIs_callCond a cc, fun s => ?_⟩, fun k => ⟨rowIs_rstRow k, fun s => ?_⟩, State.push16_eq⟩
  · rw [exec_callCond, callIf_next]
  · rw [exec_rstRow, call_next]

/-- Settles O49: the rows are `ret` and `retIf`. -/
theorem returns : Obligations.Returns := by
  refine ⟨⟨rowIs_of_columns rfl rfl rfl rfl, fun s => ?_⟩, fun cc => ⟨condRowIs_retCond cc, fun s => ?_⟩⟩
  · rw [← ret_eq]
    exact ret_next.2 rfl
  · rw [exec_retCond, retIf_next, ret_eq]

end Sys2Proof.Machine
end

section
/-! The round trips over the stack, O51 and O52 (spec/46_stack.md R185; 45_control.md R179). -/

namespace Sys2Proof.Machine

/-- A pop reads the word a push left, unless one of its bytes went to DIV. -/
theorem State.pop16Value_push16 {s : State} (hwf : s.mem.wf = true) (v : Word) (hhi : s.sp - 1 ≠ 0xFF04)
    (hlo : s.sp - 2 ≠ 0xFF04) : (s.push16 v).pop16Value = v := by
  obtain ⟨hhiByte, hloByte⟩ := State.memRead_push16 hwf v hhi hlo
  have htop : s.sp - 2 + 1 = s.sp - 1 := by bv_omega
  rw [State.pop16Value, State.push16_sp, sub_one_sub_one, htop, hhiByte, hloByte, mkWord_hi_lo]

/-- A pop after a push leaves SP as it was. -/
theorem State.pop16_push16_sp (s : State) (v : Word) : (s.push16 v).pop16.sp = s.sp := by
  rw [State.pop16_sp, State.push16_sp]
  bv_omega

/-- F without its low nibble is F, where the nibble is zero. -/
theorem and_0xF0_of_low_zero {f : Byte} (h : f &&& 0x0F = 0) : f &&& 0xF0 = f :=
  calc f &&& 0xF0 = (f &&& 0xF0) ||| (f &&& 0x0F) := by rw [h]; exact BitVec.or_zero.symm
    _ = f &&& (0xF0 ||| 0x0F) := BitVec.and_or_distrib_left.symm
    _ = f := BitVec.and_allOnes

/-- Writing a pair with what it held restores the registers. -/
theorem State.setStackPair_restores {s t : State} (ht : t.regs = s.regs) (hlow : s.regs.f &&& 0x0F = 0) (q : StackPair) :
    (t.setStackPair q (s.getStackPair q)).regs = s.regs := by
  cases q <;> simp only [State.setStackPair, State.getStackPair, State.setBc, State.setDe, State.setHl, State.setAf, State.bc,
    State.de, State.hl, State.af, Word.hi_mkWord, Word.lo_mkWord, ht, and_0xF0_of_low_zero hlow]

/-- Settles O51: POP reads the pushed pair back from where PUSH left SP. -/
theorem pushPopRoundTrip : Obligations.PushPopRoundTrip := by
  intro s q hs hhi hlo
  refine ⟨_, _, exec_pushPair q s, exec_popPair q _, ?_, ?_, ?_⟩
  · have hregs : (s.push16 (s.getStackPair q)).pop16.regs = s.regs := by rw [State.pop16_regs, State.push16_regs]
    rw [State.pop16Value_push16 hs.memCanonical _ hhi hlo]
    exact State.setStackPair_restores hregs hs.flagNibble q
  · rw [State.setStackPair_sp, State.pop16_push16_sp]
  · rw [State.setStackPair_pc, State.pop16_pc, State.push16_pc]

/-- Whatever row calls `a`, RET after it resumes at the pushed pc. -/
theorem call_ret_roundTrip {s : State} (hs : s.Inv) (hhi : s.sp - 1 ≠ 0xFF04) (hlo : s.sp - 2 ≠ 0xFF04) {i : Instr}
    {a : Word} (hi : exec i s = call a s) : ∃ t u : State, exec i s = .next t ∧ t.pc = a ∧ exec .ret t = .next u ∧
      u.pc = s.pc ∧ u.sp = s.sp ∧ u.regs = s.regs := by
  refine ⟨_, _, hi.trans (call_next.2 rfl), rfl, ret_next.2 rfl, ?_, ?_, ?_⟩
  · exact State.pop16Value_push16 hs.memCanonical s.pc hhi hlo
  · exact s.pop16_push16_sp s.pc
  · exact s.push16_regs s.pc

/-- Settles O52: CALL and RST are both `call` of their target. -/
theorem callReturnRoundTrip : Obligations.CallReturnRoundTrip :=
  fun s hs hhi hlo => ⟨fun _ => call_ret_roundTrip hs hhi hlo rfl,
    fun k => call_ret_roundTrip hs hhi hlo (exec_rstRow k s)⟩

end Sys2Proof.Machine
end

section
/-! DAA's row, O38; outside `Machine`, where `decimalAdjust` is the model's own body of the row. -/

namespace Sys2Proof
open Machine

/-- Settles O38: the row's body is `daaResult` of A and the flags. -/
theorem decimalAdjust : Obligations.DecimalAdjust := by
  refine ⟨rowIs_of_columns rfl rfl rfl rfl, fun s => ⟨_, exec_daa_eq s, ?_⟩⟩
  obtain ⟨hz, hn, hh⟩ := daaResult_flags s.regs.a s.flags
  refine ⟨by rw [State.flags_setFlags]; rfl, fun h => ?_, fun h => ?_, ?_, ?_, ?_⟩
  · rw [State.flagC_setFlags]
    exact daaResult_subtract h
  · rw [State.flagC_setFlags]
    exact daaResult_add h
  · rw [State.flagZ_setFlags, hz, beq_iff_eq]
    rfl
  · rw [State.flagN_setFlags, hn]
    rfl
  · rw [State.flagH_setFlags, hh]

end Sys2Proof
end
